-- ==== Sys2Proof/Word.lean ====
section
/-! DEFINITION. The words of the block (rule R177): a byte is 8 bits, a nibble is 4 bits, bit 0 is the least
significant bit, and every value is unsigned. -/

namespace Sys2Proof

/-- Eight bits (R177). -/
abbrev Byte := BitVec 8

/-- Four bits (R177). -/
abbrev Nibble := BitVec 4

end Sys2Proof
end

