-- ==== Sys2Proof/Syntax.lean ====
section
/-! DEFINITION. The instructions: one constructor per row of spec/opcode_table.json. The 21 `REQ` rows are the
host requests of rule R63; the 8 `TW` rows are the controller words of rule R59, which the sequencer gives
to the bus encoder as TransferWords (R54, R55). -/

namespace Sys2Proof

inductive Instr where
  /-- R119: BEGIN cols, lines. -/
  | begin (cols lines : Byte)
  /-- R121: INIT. -/
  | init
  /-- R124: CLEAR. -/
  | clear
  /-- R125: HOME. -/
  | home
  /-- R103: DISPLAY. -/
  | display
  /-- R104: NODISPLAY. -/
  | noDisplay
  /-- R105: CURSOR. -/
  | cursor
  /-- R106: NOCURSOR. -/
  | noCursor
  /-- R107: BLINK. -/
  | blink
  /-- R108: NOBLINK. -/
  | noBlink
  /-- R109: LTR. -/
  | ltr
  /-- R110: RTL. -/
  | rtl
  /-- R111: AUTOSCROLL. -/
  | autoscroll
  /-- R112: NOAUTOSCROLL. -/
  | noAutoscroll
  /-- R113: SCROLLL. -/
  | scrollL
  /-- R114: SCROLLR. -/
  | scrollR
  /-- R96: SETCURSOR col, row (both 1-based). -/
  | setCursor (col row : Byte)
  /-- R91: PUTCHAR ch (pseudo-spelling WRDATA, R68). -/
  | putChar (ch : Byte)
  /-- R126: MESSAGE text, startLine; the request carries startLine before the text (R67). -/
  | message (startLine : Byte) (text : List Byte)
  /-- R129: PUTSTRING text. -/
  | putString (text : List Byte)
  /-- R90: WRCMD w. -/
  | wrCmd (w : Byte)
  /-- R59: the word `0 00000001`. -/
  | twClearDisplay
  /-- R59: the word `0 00000010`. -/
  | twReturnHome
  /-- R59: the word `0 000001is`. -/
  | twEntryModeSet (i s : BitVec 1)
  /-- R59: the word `0 00001dcb`. -/
  | twDisplayControl (d c b : BitVec 1)
  /-- R59: the word `0 00011r00`. -/
  | twCursorShift (r : BitVec 1)
  /-- R59: the word `0 0010nf00`. -/
  | twFunctionSet (n f : BitVec 1)
  /-- R59: the word `0 1aaaaaaa`. -/
  | twSetDdramAddr (a : BitVec 7)
  /-- R59: the word `1 cccccccc`. -/
  | twData (c : Byte)
  deriving DecidableEq, Repr

/-- Whether the instruction is a host request (a `REQ` row, R62) and not a controller word (a `TW` row, R59). -/
def Instr.isRequest : Instr → Bool
  | .begin _ _ | .init | .clear | .home | .display | .noDisplay | .cursor | .noCursor | .blink | .noBlink
  | .ltr | .rtl | .autoscroll | .noAutoscroll | .scrollL | .scrollR | .setCursor _ _ | .putChar _
  | .message _ _ | .putString _ | .wrCmd _ => true
  | .twClearDisplay | .twReturnHome | .twEntryModeSet _ _ | .twDisplayControl _ _ _ | .twCursorShift _
  | .twFunctionSet _ _ | .twSetDdramAddr _ | .twData _ => false

end Sys2Proof
end

