-- ==== Sys2Proof/WellFormed.lean ====
section
/-! DEFINITION. Well-formed instructions: those some request or TransferWord encodes. The only check is R65's: a
text has at most 255 bytes, since its length is the header byte `b`. An operand value outside an
operation's domain is no encoding error but a domain error of the operation (R71), so it is well formed. -/

namespace Sys2Proof

/-- R65: the payload length fits the byte `b`. -/
def textFits (text : List Byte) : Bool := text.length ≤ 255

def Instr.wellFormed : Instr → Bool
  | .message _ text => textFits text
  | .putString text => textFits text
  | .begin _ _ | .init | .clear | .home | .display | .noDisplay | .cursor | .noCursor | .blink | .noBlink
  | .ltr | .rtl | .autoscroll | .noAutoscroll | .scrollL | .scrollR | .setCursor _ _ | .putChar _ | .wrCmd _
  | .twClearDisplay | .twReturnHome | .twEntryModeSet _ _ | .twDisplayControl _ _ _ | .twCursorShift _
  | .twFunctionSet _ _ | .twSetDdramAddr _ | .twData _ => true

end Sys2Proof
end

