-- ==== Sys2Proof/Decode.lean ====
section
/-! DEFINITION. Decoding and encoding. A request is decoded by the procedure of rule R73 from the bytes the host
presents; a TransferWord is matched against the patterns of rule R59. Both are total and reject by name.
The encoder is written from the same tables (R62, R63, R59). -/

namespace Sys2Proof

/-- Why a request encoding is reserved (R64). -/
inductive Reserved where
  /-- `op` is 0x00 or 0x16 .. 0xFF. -/
  | opcode (op : Byte)
  /-- A must-be-zero byte of the header is not zero. -/
  | mustBeZero (op a b : Byte)
  deriving DecidableEq, Repr

/-- What the request decoder answers. -/
inductive Decoded where
  /-- Header or payload bytes are still to come (R62, R65). -/
  | incomplete
  /-- A reserved request, and the bytes after it (R64). -/
  | reserved (why : Reserved) (rest : List Byte)
  /-- An operation, and the bytes after it. -/
  | instr (i : Instr) (rest : List Byte)
  deriving DecidableEq, Repr

/-- R65: the payload length, decided by byte 0 and byte 2 alone. -/
def payloadLength (op b : Byte) : Nat := if op = 0x13#8 ∨ op = 0x14#8 then b.toNat else 0

/-- A row of R63 whose two operand bytes must be zero. -/
def noOperands (op a b : Byte) (i : Instr) : Except Reserved Instr :=
  if a = 0#8 ∧ b = 0#8 then .ok i else .error (.mustBeZero op a b)

/-- A row of R63 whose byte `b` must be zero. -/
def zeroB (op a b : Byte) (i : Instr) : Except Reserved Instr :=
  if b = 0#8 then .ok i else .error (.mustBeZero op a b)

/-- A row of R63 whose byte `a` must be zero. -/
def zeroA (op a b : Byte) (i : Instr) : Except Reserved Instr :=
  if a = 0#8 then .ok i else .error (.mustBeZero op a b)

/-- R63, R64: the operation of a header with its payload. -/
def decodeHeader (op a b : Byte) (text : List Byte) : Except Reserved Instr :=
  match op.toNat with
  | 0x01 => .ok (.begin a b)
  | 0x02 => noOperands op a b .init
  | 0x03 => noOperands op a b .clear
  | 0x04 => noOperands op a b .home
  | 0x05 => noOperands op a b .display
  | 0x06 => noOperands op a b .noDisplay
  | 0x07 => noOperands op a b .cursor
  | 0x08 => noOperands op a b .noCursor
  | 0x09 => noOperands op a b .blink
  | 0x0A => noOperands op a b .noBlink
  | 0x0B => noOperands op a b .ltr
  | 0x0C => noOperands op a b .rtl
  | 0x0D => noOperands op a b .autoscroll
  | 0x0E => noOperands op a b .noAutoscroll
  | 0x0F => noOperands op a b .scrollL
  | 0x10 => noOperands op a b .scrollR
  | 0x11 => .ok (.setCursor a b)
  | 0x12 => zeroB op a b (.putChar a)
  | 0x13 => .ok (.message a text)
  | 0x14 => zeroA op a b (.putString text)
  | 0x15 => zeroB op a b (.wrCmd a)
  | _ => .error (.opcode op)

/-- R73, steps 1, 2 and 4: read `op`, `a`, `b` and the payload, and name the operation. The payload is taken even
when the header is reserved by a must-be-zero byte (R66); a reserved `op` has none (R64). -/
def decodeRequest : List Byte → Decoded
  | op :: a :: b :: tail =>
    let n := payloadLength op b
    if tail.length < n then .incomplete
    else
      match decodeHeader op a b (tail.take n) with
      | .ok i => .instr i (tail.drop n)
      | .error why => .reserved why (tail.drop n)
  | _ => .incomplete

/-- R59: the controller word a TransferWord `{RS, W}` is, if it is one of the table's. A word whose pattern is not
in the table is sent like any other (R69); it just has no row. -/
def decodeTransferWord (tw : BitVec 9) : Option Instr :=
  let w := tw.extractLsb' 0 8
  if tw.extractLsb' 8 1 = 1#1 then some (.twData w)
  else if w.extractLsb' 7 1 = 1#1 then some (.twSetDdramAddr (w.extractLsb' 0 7))
  else if w.extractLsb' 4 4 = 0b0010#4 ∧ w.extractLsb' 0 2 = 0b00#2 then
    some (.twFunctionSet (w.extractLsb' 3 1) (w.extractLsb' 2 1))
  else if w.extractLsb' 3 5 = 0b00011#5 ∧ w.extractLsb' 0 2 = 0b00#2 then
    some (.twCursorShift (w.extractLsb' 2 1))
  else if w.extractLsb' 3 5 = 0b00001#5 then
    some (.twDisplayControl (w.extractLsb' 2 1) (w.extractLsb' 1 1) (w.extractLsb' 0 1))
  else if w.extractLsb' 2 6 = 0b000001#6 then
    some (.twEntryModeSet (w.extractLsb' 1 1) (w.extractLsb' 0 1))
  else if w = 0b00000010#8 then some .twReturnHome
  else if w = 0b00000001#8 then some .twClearDisplay
  else none

/-- The two encodings an instruction can have (R54): request bytes, or a TransferWord `{RS, W}`. -/
inductive Encoding where
  | request (bytes : List Byte)
  | word (tw : BitVec 9)
  deriving DecidableEq, Repr

/-- R62, R63: a request's bytes; R59: a controller word's nine bits. -/
def encode : Instr → Encoding
  | .begin cols lines => .request [0x01#8, cols, lines]
  | .init => .request [0x02#8, 0#8, 0#8]
  | .clear => .request [0x03#8, 0#8, 0#8]
  | .home => .request [0x04#8, 0#8, 0#8]
  | .display => .request [0x05#8, 0#8, 0#8]
  | .noDisplay => .request [0x06#8, 0#8, 0#8]
  | .cursor => .request [0x07#8, 0#8, 0#8]
  | .noCursor => .request [0x08#8, 0#8, 0#8]
  | .blink => .request [0x09#8, 0#8, 0#8]
  | .noBlink => .request [0x0A#8, 0#8, 0#8]
  | .ltr => .request [0x0B#8, 0#8, 0#8]
  | .rtl => .request [0x0C#8, 0#8, 0#8]
  | .autoscroll => .request [0x0D#8, 0#8, 0#8]
  | .noAutoscroll => .request [0x0E#8, 0#8, 0#8]
  | .scrollL => .request [0x0F#8, 0#8, 0#8]
  | .scrollR => .request [0x10#8, 0#8, 0#8]
  | .setCursor col row => .request [0x11#8, col, row]
  | .putChar ch => .request [0x12#8, ch, 0#8]
  | .message startLine text => .request (0x13#8 :: startLine :: BitVec.ofNat 8 text.length :: text)
  | .putString text => .request (0x14#8 :: 0#8 :: BitVec.ofNat 8 text.length :: text)
  | .wrCmd w => .request [0x15#8, w, 0#8]
  | .twClearDisplay => .word 0b000000001#9
  | .twReturnHome => .word 0b000000010#9
  | .twEntryModeSet i s => .word (0b0000001#7 ++ i ++ s)
  | .twDisplayControl d c b => .word (0b000001#6 ++ d ++ c ++ b)
  | .twCursorShift r => .word (0b000011#6 ++ r ++ 0b00#2)
  | .twFunctionSet n f => .word (0b00010#5 ++ n ++ f ++ 0b00#2)
  | .twSetDdramAddr a => .word (0b01#2 ++ a)
  | .twData c => .word (0b1#1 ++ c)

/-- The bytes of a request header numbered as the opcode table numbers them (R77: `op` in bits 23:16, `a` in
15:8, `b` in 7:0), followed by a payload of zeros of the length the header asks for. -/
def tableRequest (w : Nat) : List Byte :=
  let op := BitVec.ofNat 8 (w / 65536)
  let a := BitVec.ofNat 8 (w / 256)
  let b := BitVec.ofNat 8 w
  op :: a :: b :: List.replicate (payloadLength op b) 0#8

/-- The instruction the decoder reads from a word of the opcode table. A 24-bit word is a request header (R77); a
9-bit pattern, 16 bits in whole bytes, is a TransferWord `{RS, W}` with `RS` in bit 8. -/
def decodeTableWord (nbits w : Nat) : Option Instr :=
  if nbits = 24 then
    if w < 16777216 then
      match decodeRequest (tableRequest w) with
      | .instr i _ => some i
      | .reserved _ _ => none
      | .incomplete => none
    else none
  else if nbits = 16 ∨ nbits = 9 then
    if w < 512 then decodeTransferWord (BitVec.ofNat 9 w) else none
  else none

end Sys2Proof
end

