-- ==== Sys2Proof/Config.lean ====
section
/-! DEFINITION. The implementation parameters of the block (rules R7 to R12, decisions D5 to D7, D9, D19, D20):
a record `Params` for every value the spec leaves open, the values the spec's own vectors use
(`Params.spec`), the constraints the spec lets a model assume (`Params.wf`), and the constants that are
not open (the row table, the two delays the source gives, the line wrap). -/

namespace Sys2Proof

/-- The open parameters of rules R7, R8, R9, R11 and R12. The record is carried in `State.cfg`, so that a
statement about every state is a statement about every value of every parameter; no step writes it. -/
structure Params where
  /-- R7: mask of the register-select line. -/
  rsBit : Byte
  /-- R7: mask of the read/write line. -/
  rwBit : Byte
  /-- R7: mask of the enable line. -/
  enBit : Byte
  /-- R7: mask of the backlight line. -/
  blBit : Byte
  /-- R8: CLEARDISPLAY. -/
  clearDisplay : Byte
  /-- R8: RETURNHOME. -/
  returnHome : Byte
  /-- R8: ENTRYMODESET. -/
  entryModeSet : Byte
  /-- R8: DISPLAYCONTROL. -/
  displayControl : Byte
  /-- R8: CURSORSHIFT. -/
  cursorShift : Byte
  /-- R8: FUNCTIONSET. -/
  functionSet : Byte
  /-- R8: SETCGRAMADDR (sent only by pass-through, R43). -/
  setCgramAddr : Byte
  /-- R8: SETDDRAMADDR. -/
  setDdramAddr : Byte
  /-- R9: entry mode, left to right. -/
  entryLeft : Byte
  /-- R9: entry mode, autoscroll. -/
  shiftIncrement : Byte
  /-- R9: display control, display on. -/
  displayOn : Byte
  /-- R9: display control, cursor on. -/
  cursorOn : Byte
  /-- R9: display control, blink on. -/
  blinkOn : Byte
  /-- R9: cursor shift, move the display. -/
  displayMove : Byte
  /-- R9: cursor shift, direction right. -/
  moveRight : Byte
  /-- R9: cursor shift, direction left. -/
  moveLeft : Byte
  /-- R9: function set, 8-bit bus (`FUNC.DL`, hardwired 0 by R21). -/
  bitMode8 : Byte
  /-- R9: function set, two lines (`FUNC.N`). -/
  line2 : Byte
  /-- R9: function set, 5x10 font (`FUNC.F`). -/
  dots5x10 : Byte
  /-- R11, R83: `T_SU`, the least time in microseconds from data valid to EN rise. -/
  tSu : Nat
  /-- R11, R83: `T_PW`, the least time EN stays set. -/
  tPw : Nat
  /-- R11, R83: `T_H`, the least time from EN fall to the next write. -/
  tH : Nat
  /-- R11: `T_CMD`, the delay after a word that is given no other delay. -/
  tCmd : Nat
  /-- R12: reset value of `FUNC`. -/
  funcReset : Byte
  /-- R12: reset value of `DCTL`. -/
  dctlReset : Byte
  /-- R12: reset value of `EMODE`. -/
  emodeReset : Byte
  /-- R12: reset value of `DSHIFT`. -/
  dshiftReset : Byte
  /-- R12: the data nibble of the power-up raw write. -/
  initNibble : Nibble
  /-- R12: the character code MESSAGE reads as a newline. -/
  newline : Byte
  /-- R12: the expander's bus address, passed through to the transport; no rule reads it. -/
  i2cAddr : BitVec 7
  /-- R12: the bus identifier, passed through to the transport; no rule reads it. -/
  busId : Nat
  deriving DecidableEq, Repr

/-- The "value here" column of rules R7, R8, R9, R11 and R12. The numbers the spec marks 'from general
knowledge, not in source' are the spec's own; assumption log entry 1. -/
def Params.spec : Params where
  rsBit := 0x01#8
  rwBit := 0x02#8
  enBit := 0x04#8
  blBit := 0x08#8
  clearDisplay := 0x01#8
  returnHome := 0x02#8
  entryModeSet := 0x04#8
  displayControl := 0x08#8
  cursorShift := 0x10#8
  functionSet := 0x20#8
  setCgramAddr := 0x40#8
  setDdramAddr := 0x80#8
  entryLeft := 0x02#8
  shiftIncrement := 0x01#8
  displayOn := 0x04#8
  cursorOn := 0x02#8
  blinkOn := 0x01#8
  displayMove := 0x08#8
  moveRight := 0x04#8
  moveLeft := 0x00#8
  bitMode8 := 0x10#8
  line2 := 0x08#8
  dots5x10 := 0x04#8
  tSu := 0
  tPw := 0
  tH := 0
  tCmd := 0
  funcReset := 0x00#8
  dctlReset := 0x04#8
  emodeReset := 0x02#8
  dshiftReset := 0x00#8
  initNibble := 0x2#4
  newline := 0x0A#8
  i2cAddr := 0x3F#7
  busId := 0

/-- Exactly one bit is set. -/
def singleBit (m : Byte) : Bool := m != 0#8 && (m &&& (m - 1#8)) == 0#8

/-- One of the four single-bit masks inside the low nibble (R7). -/
def lowMask (m : Byte) : Bool := m == 0x01#8 || m == 0x02#8 || m == 0x04#8 || m == 0x08#8

/-- R7: the four control masks are single bits of the low nibble, pairwise distinct. -/
def Params.wfMasks (p : Params) : Bool :=
  lowMask p.rsBit && lowMask p.rwBit && lowMask p.enBit && lowMask p.blBit
    && p.rsBit != p.rwBit && p.rsBit != p.enBit && p.rsBit != p.blBit
    && p.rwBit != p.enBit && p.rwBit != p.blBit && p.enBit != p.blBit

/-- D6: each command is a single bit above all bits of its flags, and the flags of one register are distinct
single bits. The direction "left" is the zero "opposite" of "right" (R9), and SETDDRAMADDR, a single bit
above its 7-bit address field, is bit 7 (R61). -/
def Params.wfWords (p : Params) : Bool :=
  singleBit p.clearDisplay && singleBit p.returnHome && singleBit p.entryModeSet && singleBit p.displayControl
    && singleBit p.cursorShift && singleBit p.functionSet && singleBit p.setCgramAddr && p.setDdramAddr == 0x80#8
    && singleBit p.entryLeft && singleBit p.shiftIncrement && p.entryLeft != p.shiftIncrement
    && (p.entryLeft ||| p.shiftIncrement).toNat < p.entryModeSet.toNat
    && singleBit p.displayOn && singleBit p.cursorOn && singleBit p.blinkOn && p.displayOn != p.cursorOn
    && p.displayOn != p.blinkOn && p.cursorOn != p.blinkOn
    && (p.displayOn ||| p.cursorOn ||| p.blinkOn).toNat < p.displayControl.toNat
    && singleBit p.displayMove && singleBit p.moveRight && p.displayMove != p.moveRight && p.moveLeft == 0#8
    && (p.displayMove ||| p.moveRight).toNat < p.cursorShift.toNat
    && singleBit p.bitMode8 && singleBit p.line2 && singleBit p.dots5x10 && p.bitMode8 != p.line2
    && p.bitMode8 != p.dots5x10 && p.line2 != p.dots5x10
    && (p.bitMode8 ||| p.line2 ||| p.dots5x10).toNat < p.functionSet.toNat

/-- R21, R31: the bits of `FUNC` that may be set. -/
def Params.funcBits (p : Params) : Byte := p.line2 ||| p.dots5x10

/-- R22, R31: the bits of `DCTL` that may be set. -/
def Params.dctlBits (p : Params) : Byte := p.displayOn ||| p.cursorOn ||| p.blinkOn

/-- R23, R31: the bits of `EMODE` that may be set. -/
def Params.emodeBits (p : Params) : Byte := p.entryLeft ||| p.shiftIncrement

/-- D7: each register reset value satisfies the no-undefined-bits invariant of R31. -/
def Params.wfResets (p : Params) : Bool :=
  (p.funcReset &&& ~~~p.funcBits) == 0#8 && (p.dctlReset &&& ~~~p.dctlBits) == 0#8
    && (p.emodeReset &&& ~~~p.emodeBits) == 0#8

/-- The constraints under which the spec states its rules (R7, D6, D7). -/
def Params.wf (p : Params) : Bool := p.wfMasks && p.wfWords && p.wfResets

namespace Config

/-- R10: the four fixed row-start offsets, indexed by line minus one. A constant of the block (R94). -/
def rowOff : Fin 4 → Nat
  | 0 => 0x00
  | 1 => 0x40
  | 2 => 0x14
  | 3 => 0x54

/-- R10: the table has four entries. -/
def maxLines : Nat := 4

/-- R10, R100: MESSAGE wraps from line 4 back to line 1. -/
def lineWrap : Nat := 4

/-- R10, R97: the width of the DDRAM address field. -/
def addrBits : Nat := 7

/-- R11: at least 3000 microseconds after CLEARDISPLAY or RETURNHOME. -/
def tClearHome : Nat := 3000

/-- R11: at least 10 ms after the power-up raw nibble. -/
def tPwrUp : Nat := 10000

end Config

end Sys2Proof
end

