-- ==== Sys2Proof/Machine/State.lean ====
section
/-! DEFINITION. The state of the machine (rules R13 to R36), as plain data; the reasons a step can stop; and the
state after reset. Beside the block's registers the state carries what lies around the block: the inputs
(request bytes, transport answers, the reset input), the parameters, the hidden state of the environment
(R34) and the trace of events (R179). -/

namespace Sys2Proof.Machine

/-- The phase register `PH` (R16). -/
inductive Phase where
  | idle
  | hiData
  | hiEn1
  | hiEn0
  | loData
  | loEn1
  | loEn0
  | release
  deriving DecidableEq, Repr

/-- The 3-bit value of `PH` (R16). -/
def Phase.code : Phase → BitVec 3
  | .idle => 0#3
  | .hiData => 1#3
  | .hiEn1 => 2#3
  | .hiEn0 => 3#3
  | .loData => 4#3
  | .loEn1 => 5#3
  | .loEn0 => 6#3
  | .release => 7#3

/-- One element of an operation's expansion (R79). -/
inductive Item where
  /-- `Xfer(rs, w)`: send one TransferWord (R82). -/
  | xfer (rs : Bool) (w : Byte)
  /-- `Raw(n)`: send one bare nibble (R87). -/
  | raw (n : Nibble)
  /-- `Delay(t)`: wait at least `t` microseconds (R88). -/
  | delay (t : Nat)
  deriving DecidableEq, Repr

/-- One event of the trace (R179): `W xx`, `W! xx` and `D n`. -/
inductive Event where
  | write (b : Byte)
  | writeFail (b : Byte)
  | delay (t : Nat)
  deriving DecidableEq, Repr

/-- The outcome code of a request (R19, R140). -/
inductive Status where
  | ok
  | transportError
  | configurationError
  | requestError
  deriving DecidableEq, Repr

/-- The 2-bit value of `STATUS` (R140). -/
def Status.code : Status → BitVec 2
  | .ok => 0#2
  | .transportError => 1#2
  | .configurationError => 2#2
  | .requestError => 3#2

/-- The three error kinds (R135). -/
inductive ErrorKind where
  | transport
  | configuration
  | request
  deriving DecidableEq, Repr

/-- The half of a word the controller expects next, `CTRLNIB` (R34). -/
inductive Half where
  | high
  | low
  deriving DecidableEq, Repr

/-- The transport's answer to one port write (R40). A failed write may or may not have changed the expander
(`reached`, R34, U2), and the controller may or may not have latched a nibble at it (`latched`, R143, U1). -/
inductive Answer where
  | ok
  | error (reached latched : Bool)
  deriving DecidableEq, Repr

/-- The hidden state outside the block (R34). No rule of the block reads it. -/
structure Env where
  /-- `EXPLATCH`: the expander's real output byte. -/
  expLatch : Byte
  /-- `CTRLNIB`: the controller's nibble phase. -/
  ctrlNib : Half
  /-- The controller's busy time: the least wait, in microseconds, still owed before the next command (R34(c),
  R161, R163). -/
  busyTime : Nat
  deriving DecidableEq, Repr

/-- The reset input while it is asserted (R153): the two straps, and the values the three latches whose reset
value is unspecified happen to take (U9, U10: any value, drawn by the environment). -/
structure ResetInput where
  /-- `cfg_backlight` (R12). -/
  backlight : Bool
  /-- `cfg_pwrup` (R12). -/
  pwrup : Bool
  /-- The value `W` takes (R14, U9). -/
  wDraw : Byte
  /-- The value `RSL` takes (R14, U9). -/
  rslDraw : Bool
  /-- The value `PORT` takes (R30, U10). -/
  portDraw : Byte
  deriving DecidableEq, Repr

structure State where
  /-- The open parameters (R7 to R9, R11, R12); no step writes them. -/
  cfg : Params
  /-- `W`, 8 bits: the word being sent (R14). -/
  w : Byte
  /-- `RSL`, 1 bit: its register-select flag (R14). -/
  rsl : Bool
  /-- `PH`, 3 bits (R16). -/
  ph : Phase
  /-- `ITEM`: the index of the item being executed (R16). -/
  item : Nat
  /-- `BUSY`, 1 bit (R18). -/
  busy : Bool
  /-- `STATUS`, 2 bits (R19). -/
  status : Status
  /-- `FAULT`, 1 bit, sticky (R20). -/
  fault : Bool
  /-- `FUNC`, 8 bits (R21). -/
  func : Byte
  /-- `DCTL`, 8 bits (R22). -/
  dctl : Byte
  /-- `EMODE`, 8 bits (R23). -/
  emode : Byte
  /-- `DSHIFT`, 8 bits (R26). -/
  dshift : Byte
  /-- `BL`, 1 bit (R24). -/
  bl : Bool
  /-- `PWRUP`, 1 bit (R25). -/
  pwrup : Bool
  /-- `NUMLINES`, 3 bits (R27). -/
  numLines : BitVec 3
  /-- `NUMCOLS`, 8 bits (R28). -/
  numCols : Byte
  /-- `CONFIGURED`, 1 bit (R29). -/
  configured : Bool
  /-- `PORT`, 8 bits: the expander shadow (R30). -/
  port : Byte
  /-- The running operation's expansion, which `ITEM` indexes (R79). -/
  expansion : List Item
  /-- The least time still to wait before the port write `PH` stands at (R83); 0 once it has been waited. -/
  settle : Nat
  /-- The error a check has found in the accepted request, reported at its completion (R73, R139); `none` for an
  operation that runs. -/
  verdict : Option ErrorKind
  /-- The bytes already taken of a request that is still incomplete (R62). -/
  rx : List Byte
  /-- Input: the request bytes the host presents, first one first (R62). -/
  reqIn : List Byte
  /-- Input: the transport's answers to the coming port writes, first one first (R40). -/
  answers : List Answer
  /-- Input: the reset input, while it is asserted (R153). -/
  rst : Option ResetInput
  /-- The hidden state outside the block (R34). -/
  env : Env
  /-- The trace, oldest event first (R179). -/
  trace : List Event
  deriving DecidableEq, Repr

/-- Why a step can stop the machine. -/
inductive Fault where
  /-- Raised by `execSetCursor` alone, when the clamped row is not in 1..4, so that `ROWOFF` has no entry for it (R93:
  "outside the function's domain"). Only a state no run reaches has it (`CONFIGURED = 1` with `NUMLINES`
  outside 1..4, against R27). Safe: the machine stops where the spec gives no address. -/
  | noRowOffset (row : Nat)
  deriving DecidableEq, Repr

/-- Why an instruction can be refused. -/
inductive Refusal where
  /-- Raised by an arm of `exec` for an instruction that has no meaning yet; no arm does. Safe. -/
  | notModelled (mnemonic : String)
  deriving DecidableEq, Repr

/-- R36: every piece of the block's state after reset with the straps and draws `r`, the parameters `p`, nothing
presented on any input, an empty trace and the environment `env`. -/
def State.resetWith (p : Params) (r : ResetInput) (env : Env) : State where
  cfg := p
  w := r.wDraw
  rsl := r.rslDraw
  ph := .idle
  item := 0
  busy := false
  status := .ok
  fault := false
  func := p.funcReset
  dctl := p.dctlReset
  emode := p.emodeReset
  dshift := p.dshiftReset
  bl := r.backlight
  pwrup := r.pwrup
  numLines := 0#3
  numCols := 0#8
  configured := false
  port := r.portDraw
  expansion := []
  settle := 0
  verdict := none
  rx := []
  reqIn := []
  answers := []
  rst := none
  env := env
  trace := []

/-- R12: the straps' defaults. The three draws are 0 (DESIGN CHOICE, assumption log entry 3). -/
def ResetInput.default : ResetInput where
  backlight := true
  pwrup := false
  wDraw := 0#8
  rslDraw := false
  portDraw := 0#8

/-- The environment's unknown state (R36), at the values the model names (DESIGN CHOICE, assumption log entry 4). -/
def Env.initial : Env where
  expLatch := 0#8
  ctrlNib := .high
  busyTime := 0

/-- The machine right after reset (R36), with the straps' defaults and the spec's parameter values. -/
def State.reset : State := State.resetWith Params.spec ResetInput.default Env.initial

end Sys2Proof.Machine
end

