-- ==== Sys2Proof/Machine/Flags.lean ====
section
/-! DEFINITION. Flag computations: setting and clearing a register bit (R32), the named fields of the control
registers (R21 to R23), what each error kind reports (R139, R140), and the register outputs the
host reads (R33). -/

namespace Sys2Proof.Machine

/-- R32: `REG | MASK`. -/
def setFlag (reg mask : Byte) : Byte := reg ||| mask

/-- R32: `REG & ~MASK`. -/
def clearFlag (reg mask : Byte) : Byte := reg &&& ~~~mask

/-- Whether any bit of the mask is set. -/
def testFlag (reg mask : Byte) : Bool := (reg &&& mask) != 0#8

/-- R119: `(lines >= 2) ? (FUNC | LINE2) : (FUNC & ~LINE2)`. -/
def functionForLines (p : Params) (func lines : Byte) : Byte :=
  if 2 ≤ lines.toNat then setFlag func p.line2 else clearFlag func p.line2

/-- R21: `FUNC.DL`, hardwired 0. -/
def State.funcDL (s : State) : Bool := testFlag s.func s.cfg.bitMode8

/-- R21: `FUNC.N`. -/
def State.funcN (s : State) : Bool := testFlag s.func s.cfg.line2

/-- R21: `FUNC.F`. -/
def State.funcF (s : State) : Bool := testFlag s.func s.cfg.dots5x10

/-- R22: `DCTL.D`. -/
def State.dctlD (s : State) : Bool := testFlag s.dctl s.cfg.displayOn

/-- R22: `DCTL.C`. -/
def State.dctlC (s : State) : Bool := testFlag s.dctl s.cfg.cursorOn

/-- R22: `DCTL.B`. -/
def State.dctlB (s : State) : Bool := testFlag s.dctl s.cfg.blinkOn

/-- R23: `EMODE.ID`. -/
def State.emodeID (s : State) : Bool := testFlag s.emode s.cfg.entryLeft

/-- R23: `EMODE.S`. -/
def State.emodeS (s : State) : Bool := testFlag s.emode s.cfg.shiftIncrement

/-- R140: the status an error kind reports. -/
def ErrorKind.status : ErrorKind → Status
  | .transport => .transportError
  | .configuration => .configurationError
  | .request => .requestError

/-- R139 (3): only `TransportError` sets `FAULT`. -/
def ErrorKind.setsFault : ErrorKind → Bool
  | .transport => true
  | .configuration | .request => false

/-- R33: the registers presented on read-only outputs. `PH`, `ITEM`, `W` and `RSL` are not presented. -/
structure Outputs where
  func : Byte
  dctl : Byte
  emode : Byte
  dshift : Byte
  bl : Bool
  pwrup : Bool
  numLines : BitVec 3
  numCols : Byte
  configured : Bool
  busy : Bool
  status : BitVec 2
  fault : Bool
  port : Byte
  deriving DecidableEq, Repr

/-- R33: what the host reads at any time. -/
def State.outputs (s : State) : Outputs where
  func := s.func
  dctl := s.dctl
  emode := s.emode
  dshift := s.dshift
  bl := s.bl
  pwrup := s.pwrup
  numLines := s.numLines
  numCols := s.numCols
  configured := s.configured
  busy := s.busy
  status := s.status.code
  fault := s.fault
  port := s.port

end Sys2Proof.Machine
end

