-- ==== Sys2Proof/Machine/Operands.lean ====
section
/-! DEFINITION. How operands and bytes are assembled: nibble extraction and byte composition (R57, R58), the
control-signal multiplexer (R81), word assembly (R60, R61) and the display address decoder (R93 to R100). -/

namespace Sys2Proof.Machine

/-- R58: `HI(w)`. -/
def hiNibble (w : Byte) : Nibble := w.extractLsb' 4 4

/-- R58: `LO(w)`. -/
def loNibble (w : Byte) : Nibble := w.extractLsb' 0 4

/-- A mask when the line is driven, else 0. -/
def lineBit (on : Bool) (mask : Byte) : Byte := if on then mask else 0#8

/-- R57: the expander byte of a nibble and the flags; `RW_BIT` is never set. -/
def expanderByte (p : Params) (n : Nibble) (rs en bl : Bool) : Byte :=
  (n.setWidth 8 <<< 4) ||| lineBit rs p.rsBit ||| lineBit en p.enBit ||| lineBit bl p.blBit

/-- R82: the control bits of a word, EN = 0 and RW = 0. -/
def controlBits (p : Params) (rs bl : Bool) : Byte := lineBit rs p.rsBit ||| lineBit bl p.blBit

/-- R82, step 1: the high-nibble byte. -/
def hiByte (p : Params) (rs bl : Bool) (w : Byte) : Byte := (w &&& 0xF0#8) ||| controlBits p rs bl

/-- R82, step 4: the low-nibble byte; the shift is taken at 8 bits (R58). -/
def loByte (p : Params) (rs bl : Bool) (w : Byte) : Byte := ((w <<< 4) &&& 0xF0#8) ||| controlBits p rs bl

/-- R86: the release byte, only the backlight bit. -/
def releaseByte (p : Params) (bl : Bool) : Byte := lineBit bl p.blBit

/-- R87: the data byte of a raw nibble, RS = 0. -/
def rawByte (p : Params) (bl : Bool) (n : Nibble) : Byte := (n.setWidth 8 <<< 4) ||| lineBit bl p.blBit

/-- R83: the shadow with EN set. -/
def withEn (p : Params) (b : Byte) : Byte := b ||| p.enBit

/-- R83: the shadow with EN cleared. -/
def withoutEn (p : Params) (b : Byte) : Byte := b &&& ~~~p.enBit

/-- R15: the nibble select; `IDLE` and `RELEASE` do not use it. -/
def nibbleSelect : Phase → Option Half
  | .hiData | .hiEn1 | .hiEn0 => some .high
  | .loData | .loEn1 | .loEn0 => some .low
  | .idle | .release => none

/-- R81: whether EN is driven in a phase. -/
def enLine : Phase → Bool
  | .hiEn1 | .loEn1 => true
  | .idle | .hiData | .hiEn0 | .loData | .loEn0 | .release => false

/-- R81: the eight lines in each phase of a word transfer, a function of `PH`, `W`, `RSL` and `BL` only. (`IDLE`
drives no write; its line states are the release's, R15.) -/
def muxByte (p : Params) (ph : Phase) (w : Byte) (rsl bl : Bool) : Byte :=
  match nibbleSelect ph with
  | some .high => expanderByte p (hiNibble w) rsl (enLine ph) bl
  | some .low => expanderByte p (loNibble w) rsl (enLine ph) bl
  | none => expanderByte p 0#4 false (enLine ph) bl

/-- R60: `FUNCTIONSET | FUNC`. -/
def functionSetWord (s : State) : Byte := s.cfg.functionSet ||| s.func

/-- R60: `DISPLAYCONTROL | DCTL`. -/
def displayControlWord (s : State) : Byte := s.cfg.displayControl ||| s.dctl

/-- R60: `ENTRYMODESET | EMODE`. -/
def entryModeSetWord (s : State) : Byte := s.cfg.entryModeSet ||| s.emode

/-- R60, R113: the scroll-left word. -/
def scrollLeftWord (p : Params) : Byte := p.cursorShift ||| p.displayMove ||| p.moveLeft

/-- R60, R114: the scroll-right word. -/
def scrollRightWord (p : Params) : Byte := p.cursorShift ||| p.displayMove ||| p.moveRight

/-- A display line, held as its index in `ROWOFF` (line minus one). -/
abbrev Line := Fin 4

/-- The line of a 1-based number in 1..4; no other number has a table entry (R93). -/
def lineOf (n : Nat) : Option Line := if h : n - 1 < 4 ∧ 1 ≤ n then some ⟨n - 1, h.1⟩ else none

/-- The 1-based number of a line. -/
def Line.number (l : Line) : Nat := l.val + 1

/-- R93: `ddramAddress(line, column)`, the exact sum; the column is 0-based. -/
def ddramAddress (l : Line) (column : Nat) : Nat := Config.rowOff l + column

/-- R95: `min(row, NUMLINES)`. -/
def clampRow (row : Byte) (numLines : BitVec 3) : Nat := min row.toNat numLines.toNat

/-- R61, R97: the address command of an address sum, of which `ADDR_BITS` bits are kept. -/
def addressWord (p : Params) (sum : Nat) : Byte := p.setDdramAddr ||| BitVec.ofNat 8 (sum % 2 ^ Config.addrBits)

/-- R99: `SETDDRAMADDR | LineAddr(line)`. -/
def lineWord (p : Params) (l : Line) : Byte := addressWord p (ddramAddress l 0)

/-- R100: `(line mod 4) + 1` on the line's number. -/
def nextLine (l : Line) : Line := ⟨l.number % Config.lineWrap, Nat.mod_lt _ (by decide)⟩

end Sys2Proof.Machine
end

