-- ==== Sys2Proof/Machine/Ops.lean ====
section
/-! DEFINITION. The shared operations: events and port writes (R40, R41), raising an error and completing (R139,
R175), reset, the only recovery (R145, R153), accepting an operation's expansion (R79), and the sequencer's
one-event steps (R17, R80 to R89). -/

namespace Sys2Proof.Machine

/-- Append one event to the trace (R179). -/
def State.emit (s : State) (e : Event) : State := { s with trace := s.trace ++ [e] }

/-- The other half of a word. -/
def Half.flip : Half → Half
  | .high => .low
  | .low => .high

/-- The expander takes a byte (R38): all eight lines change together. A fall of EN is the end of an enable pulse, at
which the controller's nibble phase toggles (R34(b); the edge is G9, assumption log entry 5). That the pulse of a raw nibble
toggles it in every mode of the controller, its power-on 8-bit state included (R46, R87 leave that open), is the model's
choice, assumption log entry 22. -/
def Env.take (p : Params) (e : Env) (b : Byte) : Env :=
  { e with
    expLatch := b
    ctrlNib := if testFlag e.expLatch p.enBit && !testFlag b p.enBit then e.ctrlNib.flip else e.ctrlNib }

/-- A failed write (R34(a), R143, U1, U2): the byte reached the expander or not, a nibble was latched or not. -/
def Env.takeFailed (e : Env) (b : Byte) (reached latched : Bool) : Env :=
  { e with
    expLatch := if reached then b else e.expLatch
    ctrlNib := if latched then e.ctrlNib.flip else e.ctrlNib }

/-- A wait of at least `t` microseconds (R41) passes for the controller. -/
def Env.wait (e : Env) (t : Nat) : Env := { e with busyTime := e.busyTime - t }

/-- The least wait owed from the moment the controller has latched an item, and again from the item's end (R34(c)):
after CLEARDISPLAY or RETURNHOME (R161), after the raw nibble (R163), `T_CMD` after any other word (R162, where it
is 0). From which of the two moments it is owed is the model's choice, assumption log entry 10. -/
def Env.owe (p : Params) (e : Env) : Item → Env
  | .xfer rs w =>
    { e with
      busyTime :=
        max e.busyTime (if !rs && (w == p.clearDisplay || w == p.returnHome) then Config.tClearHome else p.tCmd) }
  | .raw _ => { e with busyTime := max e.busyTime Config.tPwrUp }
  | .delay _ => e

/-- R40: a port write that succeeded. -/
def State.portWrite (s : State) (b : Byte) : State :=
  { s.emit (.write b) with port := b, env := s.env.take s.cfg b }

/-- R40, R89: a port write the transport failed; `PORT` keeps the last successful byte. -/
def State.portWriteFailed (s : State) (b : Byte) (reached latched : Bool) : State :=
  { s.emit (.writeFail b) with env := s.env.takeFailed b reached latched }

/-- R41: `Delay(t)`; `Delay(0)` is no event. -/
def State.delay (s : State) (t : Nat) : State :=
  if t = 0 then s else { s.emit (.delay t) with env := s.env.wait t }

/-- R139: `raise E`. This is the block's error entry: nothing is saved, no vector is fetched, the request
completes. -/
def State.raise (s : State) (e : ErrorKind) : State :=
  { s with
    ph := .idle
    item := 0
    expansion := []
    settle := 0
    verdict := none
    fault := s.fault || e.setsFault
    status := e.status
    busy := false }

/-- R79, R175: an operation whose expansion is exhausted completes with `STATUS = 0`. -/
def State.succeed (s : State) : State :=
  { s with ph := .idle, item := 0, expansion := [], settle := 0, verdict := none, status := .ok, busy := false }

/-- R5, R139, R175: the completion of a request, one event: with the error a check has found at its acceptance, else
with `STATUS = 0`. -/
def State.complete (s : State) : State :=
  match s.verdict with
  | some e => s.raise e
  | none => s.succeed

/-- R153, R145: reset, the only return from an error. Every register takes the value of R36, the straps are
sampled, a running operation is abandoned without a `STATUS`. The inputs the host and the transport hold
out, the environment (R156) and the trace (R154) are not the block's to reset. -/
def State.applyReset (s : State) (r : ResetInput) : State :=
  { State.resetWith s.cfg r s.env with reqIn := s.reqIn, answers := s.answers, trace := s.trace }

/-- R79: an accepted operation whose register writes are done is given its expansion; the sequencer starts at
item 0 (R17). -/
def State.launch (s : State) (items : List Item) : State :=
  { s with busy := true, ph := .idle, item := 0, expansion := items, settle := 0, verdict := none }

/-- R5, R18, R73: a request that a check turns away is accepted, with nothing to execute; its completion is the next
event. -/
def State.reject (s : State) (e : ErrorKind) : State :=
  { s with busy := true, ph := .idle, item := 0, expansion := [], settle := 0, verdict := some e }

/-- R79: the item `ITEM` counts to. -/
def State.current (s : State) : Option Item := s.expansion[s.item]?

/-- The data byte of the high phases: a raw nibble's (R87), else the word's (R82). -/
def State.hiDataByte (s : State) : Byte :=
  match s.current with
  | some (.raw n) => rawByte s.cfg s.bl n
  | some (.xfer _ _) | some (.delay _) | none => hiByte s.cfg s.rsl s.bl s.w

/-- R82, R87: the byte of the port write `PH` stands at. The pulse bytes are computed from the shadow (R83). `IDLE`
has none; there the value is not used. -/
def State.phaseByte (s : State) : Byte :=
  match s.ph with
  | .hiData => s.hiDataByte
  | .hiEn1 | .loEn1 => withEn s.cfg s.port
  | .hiEn0 | .loEn0 => withoutEn s.cfg s.port
  | .loData => loByte s.cfg s.rsl s.bl s.w
  | .idle | .release => releaseByte s.cfg s.bl

/-- R83, R174: the least time between the write before and the write of a phase. -/
def settleBefore (p : Params) : Phase → Nat
  | .hiEn1 | .loEn1 => p.tSu
  | .hiEn0 | .loEn0 => p.tPw
  | .loData | .release => p.tH
  | .idle | .hiData => 0

/-- The environment once the controller has latched the current item, or the item has ended (R34(c)). -/
def State.owed (s : State) : Env :=
  match s.current with
  | some it => s.env.owe s.cfg it
  | none => s.env

/-- Whether a nibble latched in the present phase is the last one of the current item (R82, R87). -/
def State.lastNibble (s : State) : Bool :=
  match s.current, s.ph with
  | some (.xfer _ _), .loData | some (.xfer _ _), .loEn1 | some (.xfer _ _), .loEn0 => true
  | some (.raw _), .hiData | some (.raw _), .hiEn1 | some (.raw _), .hiEn0 => true
  | _, _ => false

/-- The end of an item (R17): `PH <- IDLE`, `ITEM <- ITEM + 1`. -/
def State.nextItem (s : State) : State := { s with ph := .idle, item := s.item + 1, settle := 0, env := s.owed }

/-- The next phase of the item, with the time its write has to wait (R17, R83). -/
def State.nextPhase (s : State) (ph : Phase) : State := { s with ph := ph, settle := settleBefore s.cfg ph }

/-- R17: what a successful write does to the sequencing state. A raw item ends after its pulse (R87). With the low
nibble's EN-cleared write the controller has the whole word (R143). -/
def State.advance (s : State) : State :=
  match s.ph with
  | .idle => s
  | .hiData => s.nextPhase .hiEn1
  | .hiEn1 => s.nextPhase .hiEn0
  | .hiEn0 =>
    match s.current with
    | some (.raw _) => s.nextItem
    | some (.xfer _ _) | some (.delay _) | none => s.nextPhase .loData
  | .loData => s.nextPhase .loEn1
  | .loEn1 => s.nextPhase .loEn0
  | .loEn0 => ({ s with env := s.owed } : State).nextPhase .release
  | .release => s.nextItem

/-- R89, R139, R143: the port write `PH` stands at has failed, and the operation is abandoned. A last nibble that the
controller latched all the same has begun its busy time (assumption log entry 10). -/
def State.failWrite (s : State) (reached latched : Bool) : State :=
  let t := s.portWriteFailed s.phaseByte reached latched
  ({ t with env := if latched && t.lastNibble then t.owed else t.env } : State).raise .transport

/-- R40, R47, R89: the port write `PH` stands at. Until the transport has answered, the write waits (assumption log
entry 11); on success the phase advances; on failure the operation is abandoned. -/
def State.phaseWrite (s : State) : State :=
  match s.answers with
  | [] => s
  | .ok :: rest => (({ s with answers := rest } : State).portWrite s.phaseByte).advance
  | .error reached latched :: rest => ({ s with answers := rest } : State).failWrite reached latched

/-- R83: the wait before the port write `PH` stands at is over. -/
def State.settleWait (s : State) : State := { s.delay s.settle with settle := 0 }

/-- R5, R83: the next event of a started item: the wait its write owes, one event, or the write. -/
def State.phaseEvent (s : State) : State := if s.settle = 0 then s.phaseWrite else s.settleWait

/-- R80: the start of `Xfer(rs, w)`: the operands are latched and the first write is issued. -/
def State.beginXfer (s : State) (rs : Bool) (w : Byte) : State :=
  ({ s with w := w, rsl := rs, ph := .hiData, settle := 0 } : State).phaseWrite

/-- R87: the start of `Raw(n)`; the latches `W` and `RSL` belong to word transfers alone (R14). -/
def State.beginRaw (s : State) : State := ({ s with ph := .hiData, settle := 0 } : State).phaseWrite

/-- R88: a `Delay(t)` item, one event with `PH = IDLE` throughout. -/
def State.delayItem (s : State) (t : Nat) : State := (s.delay t).nextItem

/-- R11, R88: a delay as an item, or none for `Delay(0)`, which is no event. -/
def delayItems (t : Nat) : List Item := if t = 0 then [] else [.delay t]

/-- A word transfer and the delay `T_CMD` that follows a word which is given no other delay (R11). The block does not
recognise a word (R69), so WRCMD's are all followed by it, CLEARDISPLAY and RETURNHOME included: the model's choice,
assumption log entry 2. -/
def wordItems (p : Params) (rs : Bool) (w : Byte) : List Item := .xfer rs w :: delayItems p.tCmd

/-- R124: the expansion of CLEAR. -/
def clearItems (p : Params) : List Item := [.xfer false p.clearDisplay, .delay Config.tClearHome]

/-- R125: the expansion of HOME. -/
def homeItems (p : Params) : List Item := [.xfer false p.returnHome, .delay Config.tClearHome]

/-- An accepted operation's step. -/
abbrev Result := Host.Outcome State Fault Refusal

/-- R144: while `FAULT = 1` every request is accepted and completes at once with `STATUS = 1`. -/
def whenNoFault (s : State) (k : Result) : Result := if s.fault then .next (s.reject .transport) else k

/-- R73, steps 3 and 5, for every operation but BEGIN: the sticky fault, then `CONFIGURED` (R134). -/
def whenReady (s : State) (k : Result) : Result :=
  whenNoFault s (if s.configured then k else .next (s.reject .request))

/-- R73, steps 3 and 4, for a reserved request (R64). -/
def State.rejectReserved (s : State) : State := if s.fault then s.reject .transport else s.reject .request

end Sys2Proof.Machine
end

