-- ==== Sys2Proof/Machine/Address.lean ====
section
/-! DEFINITION. SETCURSOR, the operation of the display address decoder (rules R95 to R98). -/

namespace Sys2Proof.Machine

/-- R96: SETCURSOR `col, row`. The row is clamped, the column is not; both are 1-based, and 0 is outside the domain
(R98). -/
def execSetCursor (col row : Byte) (s : State) : Result :=
  whenReady s
    (if col = 0#8 ∨ row = 0#8 then .next (s.reject .request)
     else
      match lineOf (clampRow row s.numLines) with
      | some l => .next (s.launch (wordItems s.cfg false (addressWord s.cfg (ddramAddress l (col.toNat - 1)))))
      | none => .fault (.noRowOffset (clampRow row s.numLines)))

end Sys2Proof.Machine
end

