-- ==== Sys2Proof/Machine/Encoder.lean ====
section
/-! DEFINITION. The operations that are nothing but word transfers: WRCMD and PUTCHAR (R90, R91), and the eight
controller words of R59 as the bus encoder takes them (R69, R79, R80): the start of the word transfer, whose
further writes the sequencer's steps make. -/

namespace Sys2Proof.Machine

/-- R90: WRCMD `w`; no control register is written, whatever `w` is. -/
def execWrCmd (w : Byte) (s : State) : Result :=
  whenReady s (.next (s.launch (wordItems s.cfg false w)))

/-- R91: PUTCHAR `ch`; no code is interpreted. -/
def execPutChar (ch : Byte) (s : State) : Result :=
  whenReady s (.next (s.launch (wordItems s.cfg true ch)))

/-- R59, R80: the word `0 00000001`. -/
def execTwClearDisplay (s : State) : Result := .next (s.beginXfer false 0b00000001#8)

/-- R59, R80: the word `0 00000010`. -/
def execTwReturnHome (s : State) : Result := .next (s.beginXfer false 0b00000010#8)

/-- R59, R80: the word `0 000001is`. -/
def execTwEntryModeSet (i sh : BitVec 1) (s : State) : Result :=
  .next (s.beginXfer false (0b000001#6 ++ i ++ sh))

/-- R59, R80: the word `0 00001dcb`. -/
def execTwDisplayControl (d c b : BitVec 1) (s : State) : Result :=
  .next (s.beginXfer false (0b00001#5 ++ d ++ c ++ b))

/-- R59, R80: the word `0 00011r00`. -/
def execTwCursorShift (r : BitVec 1) (s : State) : Result :=
  .next (s.beginXfer false (0b00011#5 ++ r ++ 0b00#2))

/-- R59, R80: the word `0 0010nf00`. -/
def execTwFunctionSet (n f : BitVec 1) (s : State) : Result :=
  .next (s.beginXfer false (0b0010#4 ++ n ++ f ++ 0b00#2))

/-- R59, R80: the word `0 1aaaaaaa`. -/
def execTwSetDdramAddr (a : BitVec 7) (s : State) : Result :=
  .next (s.beginXfer false (0b1#1 ++ a))

/-- R59, R80: the word `1 cccccccc`. -/
def execTwData (c : Byte) (s : State) : Result := .next (s.beginXfer true c)

end Sys2Proof.Machine
end

