-- ==== Sys2Proof/Machine/Register.lean ====
section
/-! DEFINITION. The register operations of rules R102 to R114: ten toggles and two scrolls. Each toggle changes one
bit of one control register and re-emits that register's command word; each scroll emits a constant word. -/

namespace Sys2Proof.Machine

/-- R102: `DCTL` takes its new value, and DISPLAYCONTROL is re-emitted with it. -/
def writeDctl (s : State) (v : Byte) : State :=
  let s' : State := { s with dctl := v }
  s'.launch (wordItems s.cfg false (displayControlWord s'))

/-- R102: `EMODE` takes its new value, and ENTRYMODESET is re-emitted with it. -/
def writeEmode (s : State) (v : Byte) : State :=
  let s' : State := { s with emode := v }
  s'.launch (wordItems s.cfg false (entryModeSetWord s'))

/-- R103. -/
def execDisplay (s : State) : Result := whenReady s (.next (writeDctl s (setFlag s.dctl s.cfg.displayOn)))

/-- R104. -/
def execNoDisplay (s : State) : Result := whenReady s (.next (writeDctl s (clearFlag s.dctl s.cfg.displayOn)))

/-- R105. -/
def execCursor (s : State) : Result := whenReady s (.next (writeDctl s (setFlag s.dctl s.cfg.cursorOn)))

/-- R106. -/
def execNoCursor (s : State) : Result := whenReady s (.next (writeDctl s (clearFlag s.dctl s.cfg.cursorOn)))

/-- R107. -/
def execBlink (s : State) : Result := whenReady s (.next (writeDctl s (setFlag s.dctl s.cfg.blinkOn)))

/-- R108. -/
def execNoBlink (s : State) : Result := whenReady s (.next (writeDctl s (clearFlag s.dctl s.cfg.blinkOn)))

/-- R109. -/
def execLtr (s : State) : Result := whenReady s (.next (writeEmode s (setFlag s.emode s.cfg.entryLeft)))

/-- R110. -/
def execRtl (s : State) : Result := whenReady s (.next (writeEmode s (clearFlag s.emode s.cfg.entryLeft)))

/-- R111. -/
def execAutoscroll (s : State) : Result := whenReady s (.next (writeEmode s (setFlag s.emode s.cfg.shiftIncrement)))

/-- R112. -/
def execNoAutoscroll (s : State) : Result :=
  whenReady s (.next (writeEmode s (clearFlag s.emode s.cfg.shiftIncrement)))

/-- R113. -/
def execScrollL (s : State) : Result := whenReady s (.next (s.launch (wordItems s.cfg false (scrollLeftWord s.cfg))))

/-- R114. -/
def execScrollR (s : State) : Result := whenReady s (.next (s.launch (wordItems s.cfg false (scrollRightWord s.cfg))))

end Sys2Proof.Machine
end

