-- ==== Sys2Proof/Machine/Setup.lean ====
section
/-! DEFINITION. Configuration and bring-up: BEGIN (R119, R120), INIT (R121 to R123), CLEAR (R124) and HOME (R125). -/

namespace Sys2Proof.Machine

/-- R120: whether BEGIN raises `ConfigurationError`. -/
def beginInvalid (cols lines : Byte) (s : State) : Bool :=
  s.configured || cols == 0#8 || lines == 0#8 || Config.maxLines < lines.toNat

/-- R119: BEGIN `cols, lines`; nothing is emitted. -/
def execBegin (cols lines : Byte) (s : State) : Result :=
  whenNoFault s
    (if beginInvalid cols lines s then .next (s.reject .configuration)
     else
      .next
        (({ s with
            numCols := cols
            numLines := lines.setWidth 3
            func := functionForLines s.cfg s.func lines
            configured := true } : State).launch []))

/-- R123: the power-up path, when `PWRUP` was 1. -/
def powerUpItems (p : Params) (pwrup : Bool) : List Item :=
  if pwrup then [.raw p.initNibble, .delay Config.tPwrUp] else []

/-- R121: the expansion of INIT. -/
def initItems (s : State) : List Item :=
  powerUpItems s.cfg s.pwrup
    ++ wordItems s.cfg false (functionSetWord s)
    ++ wordItems s.cfg false (displayControlWord s)
    ++ wordItems s.cfg false (entryModeSetWord s)
    ++ clearItems s.cfg
    ++ homeItems s.cfg

/-- R121: INIT; `PWRUP` is cleared before the first port write. -/
def execInit (s : State) : Result :=
  whenReady s (.next (({ s with pwrup := false } : State).launch (initItems s)))

/-- R124: CLEAR. -/
def execClear (s : State) : Result := whenReady s (.next (s.launch (clearItems s.cfg)))

/-- R125: HOME. -/
def execHome (s : State) : Result := whenReady s (.next (s.launch (homeItems s.cfg)))

end Sys2Proof.Machine
end

