-- ==== Sys2Proof/Machine/Text.lean ====
section
/-! DEFINITION. Text output: MESSAGE (R126 to R128, R132) and PUTSTRING (R129). -/

namespace Sys2Proof.Machine

/-- R126: the items of a text whose current line is `l`. A NEWLINE steps to the next line and repositions; every other
code is a character (R127). -/
def textItems (p : Params) : Line → List Byte → List Item
  | _, [] => []
  | l, ch :: text =>
    if ch = p.newline then wordItems p false (lineWord p (nextLine l)) ++ textItems p (nextLine l) text
    else wordItems p true ch ++ textItems p l text

/-- R126: the expansion of MESSAGE from the line `l`. -/
def messageItems (p : Params) (l : Line) (text : List Byte) : List Item :=
  wordItems p false (lineWord p l) ++ textItems p l text

/-- R126: MESSAGE `text, startLine`; a start line outside 1..4 is a `RequestError` (R128), and `NUMLINES` is not
consulted (R132). -/
def execMessage (startLine : Byte) (text : List Byte) (s : State) : Result :=
  whenReady s
    (match lineOf startLine.toNat with
      | some l => .next (s.launch (messageItems s.cfg l text))
      | none => .next (s.reject .request))

/-- R129: the expansion of PUTSTRING, one character after another. -/
def stringItems (p : Params) : List Byte → List Item
  | [] => []
  | ch :: text => wordItems p true ch ++ stringItems p text

/-- R129: PUTSTRING `text`. -/
def execPutString (text : List Byte) (s : State) : Result :=
  whenReady s (.next (s.launch (stringItems s.cfg text)))

end Sys2Proof.Machine
end

