-- ==== Sys2Proof/Machine/Dispatch.lean ====
section
/-! DEFINITION. One arm per instruction. -/

namespace Sys2Proof.Machine

def exec (i : Instr) (s : State) : Host.Outcome State Fault Refusal :=
  match i with
  | .begin cols lines => Sys2Proof.Machine.execBegin cols lines s
  | .init => Sys2Proof.Machine.execInit s
  | .clear => Sys2Proof.Machine.execClear s
  | .home => Sys2Proof.Machine.execHome s
  | .display => Sys2Proof.Machine.execDisplay s
  | .noDisplay => Sys2Proof.Machine.execNoDisplay s
  | .cursor => Sys2Proof.Machine.execCursor s
  | .noCursor => Sys2Proof.Machine.execNoCursor s
  | .blink => Sys2Proof.Machine.execBlink s
  | .noBlink => Sys2Proof.Machine.execNoBlink s
  | .ltr => Sys2Proof.Machine.execLtr s
  | .rtl => Sys2Proof.Machine.execRtl s
  | .autoscroll => Sys2Proof.Machine.execAutoscroll s
  | .noAutoscroll => Sys2Proof.Machine.execNoAutoscroll s
  | .scrollL => Sys2Proof.Machine.execScrollL s
  | .scrollR => Sys2Proof.Machine.execScrollR s
  | .setCursor col row => Sys2Proof.Machine.execSetCursor col row s
  | .putChar ch => Sys2Proof.Machine.execPutChar ch s
  | .message startLine text => Sys2Proof.Machine.execMessage startLine text s
  | .putString text => Sys2Proof.Machine.execPutString text s
  | .wrCmd w => Sys2Proof.Machine.execWrCmd w s
  | .twClearDisplay => Sys2Proof.Machine.execTwClearDisplay s
  | .twReturnHome => Sys2Proof.Machine.execTwReturnHome s
  | .twEntryModeSet dir sh => Sys2Proof.Machine.execTwEntryModeSet dir sh s
  | .twDisplayControl d c b => Sys2Proof.Machine.execTwDisplayControl d c b s
  | .twCursorShift r => Sys2Proof.Machine.execTwCursorShift r s
  | .twFunctionSet n f => Sys2Proof.Machine.execTwFunctionSet n f s
  | .twSetDdramAddr a => Sys2Proof.Machine.execTwSetDdramAddr a s
  | .twData c => Sys2Proof.Machine.execTwData c s

end Sys2Proof.Machine
end

