-- ==== Sys2Proof/Machine/Sequencer.lean ====
section
/-! DEFINITION. What a step does when the block is not being reset: take a request from the request port (R62, R66,
R73, R164), or make the running operation's next event (R5, R17, R79). -/

namespace Sys2Proof.Machine

/-- The request port: what has been taken of the request, and what the host holds out, are decoded together. A whole
request is accepted in one step; of an incomplete one the bytes there are are taken, and `BUSY` rises with byte
0 (R62). With nothing presented the block stays idle. -/
def receive (s : State) : Result :=
  match decodeRequest (s.rx ++ s.reqIn) with
  | .incomplete => .next { s with rx := s.rx ++ s.reqIn, reqIn := [], busy := !(s.rx ++ s.reqIn).isEmpty }
  | .reserved _ rest => .next ({ s with rx := [], reqIn := rest } : State).rejectReserved
  | .instr i rest => Sys2Proof.Machine.exec i { s with rx := [], reqIn := rest }

/-- The sequencer gives a TransferWord to the bus encoder (R54, R80). A word of R59's table is the instruction of its
row; any other word is sent all the same (R69). -/
def startWord (rs : Bool) (w : Byte) (s : State) : Result :=
  match decodeTransferWord (BitVec.ofBool rs ++ w) with
  | some i => Sys2Proof.Machine.exec i s
  | none => .next (s.beginXfer rs w)

/-- R79: start the item `ITEM` counts to, or complete when the expansion is exhausted. -/
def startItem (s : State) : Result :=
  match s.current with
  | some (.xfer rs w) => startWord rs w s
  | some (.raw _) => .next s.beginRaw
  | some (.delay t) => .next (s.delayItem t)
  | none => .next s.complete

/-- One event of the running operation (R5). -/
def sequence (s : State) : Result :=
  match s.ph with
  | .idle => startItem s
  | .hiData | .hiEn1 | .hiEn0 | .loData | .loEn1 | .loEn0 | .release => .next s.phaseEvent

/-- Whether an accepted operation is running; a request still being received also holds `BUSY` (R62). -/
def State.running (s : State) : Bool := s.busy && s.rx.isEmpty

/-- One step of the machine (R5). The reset input comes first (R153); then the running operation, during which no
request byte is taken (R164); else the request port. -/
def stepMachine (s : State) : Result :=
  match s.rst with
  | some r => .next (s.applyReset r)
  | none => if s.running then sequence s else receive s

/-- The sequencer at rest with nothing running and nothing half received, the reset input released. -/
def State.atRest (s : State) : State :=
  { s with ph := .idle, item := 0, busy := false, expansion := [], settle := 0, verdict := none, rx := [], rst := none }

/-- The bytes of a table word, presented before whatever the host already holds out. -/
def presentWord (s : State) (w : Nat) : State := { s.atRest with reqIn := tableRequest w ++ s.reqIn }

/-- A TransferWord given to the bus encoder as the one item of a running operation. -/
def presentTransferWord (s : State) (w : Nat) : State :=
  s.atRest.launch [.xfer ((BitVec.ofNat 9 w).extractLsb' 8 1 == 1#1) ((BitVec.ofNat 9 w).extractLsb' 0 8)]

end Sys2Proof.Machine
end

