-- ==== Sys2Proof/Machine/Step.lean ====
section
/-! DEFINITION. One step of the machine, and how an instruction of the opcode table is placed to be the next one. -/

namespace Sys2Proof.Machine

/-- R5: a step is one event: one expander write, one delay, one request accepted, one request completed (or the reset
event of R153, or a wait for an input that is not there yet). -/
def step (s : State) : Host.Outcome State Fault Refusal := stepMachine s

/-- `s` with an instruction of the opcode table placed where the next step takes its instruction from: a request
(24 bits) on the request port, a TransferWord (9 bits, 16 in whole bytes) at the bus encoder. Assumption
log entry 6. -/
def State.withFetchWord (s : State) (nbits w : Nat) : State :=
  if nbits = 24 then presentWord s w else presentTransferWord s w

end Sys2Proof.Machine
end

