-- ==== Sys2Proof/Machine/Receiver.lean ====
section
/-! DEFINITION. Reading a trace: the reference receiver of rule R75 and the phase view of rule R74. -/

namespace Sys2Proof.Machine

/-- The bytes of the successful writes, in order. -/
def writesOf : List Event → List Byte
  | [] => []
  | .write b :: es => b :: writesOf es
  | .writeFail _ :: es => writesOf es
  | .delay _ :: es => writesOf es

/-- R75: the nibbles captured at the falling edges of EN, each with the RS and data lines of the EN-set byte. -/
def capture (p : Params) : List Byte → List (Bool × Nibble)
  | b :: c :: bs =>
    if testFlag b p.enBit && !testFlag c p.enBit then
      (testFlag b p.rsBit, b.extractLsb' 4 4) :: capture p (c :: bs)
    else capture p (c :: bs)
  | _ => []

/-- R75: captured nibbles paired in order, first of each pair high; a last nibble without a partner gives no word. R75
leaves open which nibble's RS a word takes when the two differ (after a transfer cut short): here the low nibble's, the
model's choice, assumption log entry 21. -/
def pairNibbles : List (Bool × Nibble) → List (Bool × Byte)
  | (_, hi) :: (rs, lo) :: rest => (rs, hi ++ lo) :: pairNibbles rest
  | _ => []

/-- R75: the words a trace carries. -/
def received (p : Params) (es : List Event) : List (Bool × Byte) := pairNibbles (capture p (writesOf es))

/-- R74: one unit of the source's counting. -/
inductive PhaseUnit where
  | data (b : Byte)
  | pulse (set cleared : Byte)
  deriving DecidableEq, Repr

/-- R74: the phase view of one word transfer's seven writes; the release is not counted. -/
def phases : List Byte → List PhaseUnit
  | [b1, b2, b3, b4, b5, b6, _] => [.data b1, .pulse b2 b3, .data b4, .pulse b5 b6]
  | _ => []

end Sys2Proof.Machine
end

