-- ==== Sys2Proof/Machine/Expansion.lean ====
section
/-! DEFINITION. What an expansion does as a whole, written item by item from rules R82, R87 and R88 without the phase
register: the trace of an item, the state after it, and the state after a whole operation, with or without a
transport failure. The step function makes the same events one by one; that the two agree is stated for the
provers. -/

namespace Sys2Proof.Machine

/-- R82: the seven bytes of `Xfer(rs, w)`. -/
def xferBytes (p : Params) (bl rs : Bool) (w : Byte) : List Byte :=
  let hi := hiByte p rs bl w
  let lo := loByte p rs bl w
  [hi, hi ||| p.enBit, hi, lo, lo ||| p.enBit, lo, releaseByte p bl]

/-- R88: the event of a wait; `Delay(0)` is none. -/
def waitEvents (t : Nat) : List Event := if t = 0 then [] else [.delay t]

/-- R83: a data write and the enable pulse that follows it, with the waits between them. -/
def strobeEvents (p : Params) (b : Byte) : List Event :=
  .write b :: waitEvents p.tSu ++ .write (b ||| p.enBit) :: waitEvents p.tPw ++ [.write b]

/-- The events of one item, fault-free: R82 with the waits of R83, R87, R88. -/
def Item.events (p : Params) (bl : Bool) : Item → List Event
  | .xfer rs w =>
    strobeEvents p (hiByte p rs bl w) ++ waitEvents p.tH ++ strobeEvents p (loByte p rs bl w) ++ waitEvents p.tH ++
      [.write (releaseByte p bl)]
  | .raw n => strobeEvents p (rawByte p bl n)
  | .delay t => waitEvents t

/-- The events of an expansion, fault-free and in list order (R79). -/
def eventsOf (p : Params) (bl : Bool) (items : List Item) : List Event := items.flatMap (Item.events p bl)

/-- R92: the port writes of one item. -/
def Item.writes : Item → Nat
  | .xfer _ _ => 7
  | .raw _ => 3
  | .delay _ => 0

/-- R83: how many waits a data write and its pulse have. -/
def strobeWaits (p : Params) : Nat := (waitEvents p.tSu).length + (waitEvents p.tPw).length

/-- The steps of one item: one for each event (R5); a delay item is a step even if it is no event. -/
def Item.steps (p : Params) : Item → Nat
  | .xfer _ _ => 7 + 2 * (strobeWaits p + (waitEvents p.tH).length)
  | .raw _ => 3 + strobeWaits p
  | .delay _ => 1

/-- The port writes of an expansion (R173). -/
def writeCount (items : List Item) : Nat := (items.map Item.writes).sum

/-- The steps of an expansion, and one for the completion. -/
def stepCount (p : Params) (items : List Item) : Nat := (items.map (Item.steps p)).sum + 1

/-- The environment after one event that succeeded. -/
def Env.after (p : Params) (e : Env) : Event → Env
  | .write b => e.take p b
  | .writeFail _ => e
  | .delay t => e.wait t

/-- The state after one item whose writes all succeed: the trace grows by the item's events, a word transfer leaves
its operands in the latches (R80) and the release byte in `PORT` (R86), a raw nibble leaves its data byte
there (R87). -/
def State.afterItem (s : State) (it : Item) : State :=
  let events := it.events s.cfg s.bl
  { s with
    w := match it with | .xfer _ w => w | .raw _ | .delay _ => s.w
    rsl := match it with | .xfer rs _ => rs | .raw _ | .delay _ => s.rsl
    port := match it with
      | .xfer _ _ => releaseByte s.cfg s.bl
      | .raw n => rawByte s.cfg s.bl n
      | .delay _ => s.port
    answers := s.answers.drop it.writes
    env := (events.foldl (Env.after s.cfg) s.env).owe s.cfg it
    trace := s.trace ++ events }

/-- The state after an operation whose port writes all succeed: its items in order, then the completion with
`STATUS = 0` (R79, R175). -/
def State.finish (s : State) (items : List Item) : State := (items.foldl State.afterItem s).succeed

/-- R89: the events of an operation whose port write number `k` (counted from 0) the transport fails. -/
def failAt : Nat → List Event → List Event
  | _, [] => []
  | 0, .write b :: _ => [.writeFail b]
  | k + 1, .write b :: es => .write b :: failAt k es
  | k, .writeFail b :: es => .writeFail b :: failAt k es
  | k, .delay t :: es => .delay t :: failAt k es

/-- The byte of the last successful write, or `b` if there is none (R30). -/
def lastWrite (b : Byte) (es : List Event) : Byte := (writesOf es).getLast?.getD b

end Sys2Proof.Machine
end

