-- ==== Sys2Proof/Safety.lean ====
section
/-! DEFINITION. What statements are made of: the invariant of the machine, in named parts, with the rule each part
comes from; the conditions under which an operation runs; and what it is for an operation to complete. -/

namespace Sys2Proof.Machine

/-- R31: no undefined bit is set in a control register. The reset values of the parameters are among those the spec
allows (D7), so that the reset event keeps this too. -/
structure RegistersClean (s : State) : Prop where
  resets : s.cfg.wfResets = true
  func : s.func &&& ~~~s.cfg.funcBits = 0#8
  dctl : s.dctl &&& ~~~s.cfg.dctlBits = 0#8
  emode : s.emode &&& ~~~s.cfg.emodeBits = 0#8

/-- R27, R28, R29: the geometry is 0 until configured, and then in its range. -/
structure GeometryValid (s : State) : Prop where
  unset : s.configured = false → s.numLines = 0#3 ∧ s.numCols = 0#8
  lines : s.configured = true → 1 ≤ s.numLines.toNat ∧ s.numLines.toNat ≤ 4
  cols : s.configured = true → s.numCols ≠ 0#8

/-- R16, R17, R18, R62: what the sequencing state may be. -/
structure SequencingValid (s : State) : Prop where
  /-- R17: with no operation running, `PH = IDLE` and `ITEM = 0`. -/
  rest : s.running = false → s.ph = .idle ∧ s.item = 0 ∧ s.expansion = [] ∧ s.verdict = none
  /-- R73, R79: a request that a check has turned away has nothing to execute. -/
  turnedAway : s.verdict ≠ none → s.ph = .idle ∧ s.expansion = []
  /-- R83: what is left to wait before a write is what its phase owes, or nothing. -/
  settle : s.settle = 0 ∨ s.settle = settleBefore s.cfg s.ph
  /-- R62: `BUSY` has risen when bytes of a request have been taken. -/
  taken : s.rx ≠ [] → s.busy = true
  /-- R62: what has been taken is not a whole request. -/
  partialRequest : decodeRequest s.rx = .incomplete
  /-- R79: `ITEM` counts the expansion's items. -/
  index : s.item ≤ s.expansion.length
  /-- R17, R80, R87: outside `IDLE` the phases belong to the current item, a word transfer whose operands are latched,
  or a raw nibble in one of its three phases. -/
  phase : s.ph ≠ .idle →
    s.current = some (.xfer s.rsl s.w) ∨
      ((∃ n, s.current = some (.raw n)) ∧ (s.ph = .hiData ∨ s.ph = .hiEn1 ∨ s.ph = .hiEn0))

/-- R82, R83, R87: `PORT` in each phase is the byte the phase before has written. -/
structure ShadowValid (s : State) : Prop where
  hiEn1 : s.ph = .hiEn1 → s.port = s.hiDataByte
  hiEn0 : s.ph = .hiEn0 → s.port = withEn s.cfg s.hiDataByte
  loData : s.ph = .loData → s.port = s.hiDataByte
  loEn1 : s.ph = .loEn1 → s.port = loByte s.cfg s.rsl s.bl s.w
  loEn0 : s.ph = .loEn0 → s.port = withEn s.cfg (loByte s.cfg s.rsl s.bl s.w)
  release : s.ph = .release → s.port = loByte s.cfg s.rsl s.bl s.w

/-- R20, R139, R142, R144: the sticky fault goes with `STATUS = 1`, nothing runs under it but the completion of a
request turned away, and such a request reports TransportError under the sticky fault and only there. -/
structure FaultLatched (s : State) : Prop where
  status : s.fault = true → s.status = .transportError
  stopped : s.fault = true → s.running = true → s.verdict = some .transport
  verdict : ∀ e, s.verdict = some e → (e = .transport ↔ s.fault = true)

/-- The invariant that every step keeps. -/
structure Inv (s : State) : Prop where
  cfg : s.cfg.wf = true
  registers : RegistersClean s
  geometry : GeometryValid s
  sequencing : SequencingValid s
  shadow : ShadowValid s
  faulted : FaultLatched s

/-- R84: no port write attempted so far had the read/write line set. -/
def RwClear (s : State) : Prop :=
  ∀ b, (Event.write b ∈ s.trace ∨ Event.writeFail b ∈ s.trace) → b &&& s.cfg.rwBit = 0#8

/-- R83, R160: between two consecutive writes with EN set in either, only EN moves. -/
def StableAroundEn (p : Params) (bytes : List Byte) : Prop :=
  ∀ k b c, bytes[k]? = some b → bytes[k + 1]? = some c → (b ||| c) &&& p.enBit ≠ 0#8 → (b ^^^ c) &&& ~~~p.enBit = 0#8

/-- R73, steps 3 and 5: an operation other than BEGIN is not turned away before its domain check; the reset input is
released and no other request is half received. -/
structure Ready (s : State) : Prop where
  noFault : s.fault = false
  configured : s.configured = true
  noReset : s.rst = none
  nothingTaken : s.rx = []

/-- The transport answers the next `n` port writes with success (R40). -/
def Answered (s : State) (n : Nat) : Prop := ∃ rest, s.answers = List.replicate n .ok ++ rest

/-- `n` steps of the machine, stopping at the first fault or refusal: `Host.Core.run` with the model's own names
(`runSteps_eq_core_run`, Laws/Step.lean). -/
def runSteps : Nat → State → Result
  | 0, s => .next s
  | n + 1, s =>
    match step s with
    | .next t => runSteps n t
    | .fault r => .fault r
    | .refused r => .refused r

/-- What lies around the register outputs is the same: parameters, latches, inputs, environment and trace. -/
structure SameSurroundings (s t : State) : Prop where
  cfg : t.cfg = s.cfg
  w : t.w = s.w
  rsl : t.rsl = s.rsl
  rx : t.rx = s.rx
  reqIn : t.reqIn = s.reqIn
  answers : t.answers = s.answers
  rst : t.rst = s.rst
  env : t.env = s.env
  trace : t.trace = s.trace

/-- R79: the operation `i`, accepted in the state `s`, leaves the registers as in `s'` and has the expansion `items`;
and the steps that follow, one for each event and one for the completion, execute the expansion and leave the
state `s'.finish items` (`Machine/Expansion.lean`), in which `BUSY = 0` and `STATUS = 0`. -/
def Completes (i : Instr) (s s' : State) (items : List Item) : Prop :=
  exec i s = .next (s'.launch items) ∧
    runSteps (stepCount s.cfg items) (s'.launch items) = .next (s'.finish items)

/-- R5, R73, R139: the request `i` is accepted in the state `s` and turned away with the status `code`: `BUSY` rises and
nothing else that the host sees changes; the next event is its completion, with `BUSY = 0` and that `STATUS`. No port
write, no delay and no change of a register, a latch or the environment happens in either. -/
def TurnedAway (i : Instr) (s : State) (code : BitVec 2) : Prop :=
  ∃ t, exec i s = .next t ∧ t.outputs = { s.outputs with busy := true } ∧ t.ph = .idle ∧ t.item = 0 ∧
    t.expansion = [] ∧ SameSurroundings s t ∧
    (s.rst = none → s.rx = [] →
      ∃ u, step t = .next u ∧ u.outputs = { s.outputs with busy := false, status := code } ∧ u.ph = .idle ∧
        u.item = 0 ∧ u.expansion = [] ∧ SameSurroundings s u)

/-- The word items of an expansion, in order (R76). -/
def wordsOf : List Item → List (Bool × Byte)
  | [] => []
  | .xfer rs w :: items => (rs, w) :: wordsOf items
  | .raw _ :: items => wordsOf items
  | .delay _ :: items => wordsOf items

/-- No item is a raw nibble. -/
def noRaw : List Item → Bool
  | [] => true
  | .raw _ :: _ => false
  | .xfer _ _ :: items => noRaw items
  | .delay _ :: items => noRaw items

/-- The delays of an expansion, in order (R173). -/
def delaysOf : List Item → List Nat
  | [] => []
  | .delay t :: items => t :: delaysOf items
  | .xfer _ _ :: items => delaysOf items
  | .raw _ :: items => delaysOf items

/-- No delay item is `Delay(0)`, which is no event (R88). -/
def delaysPositive (items : List Item) : Bool := (delaysOf items).all fun t => t != 0

/-- The fields a rule leaves open at reset, `W`, `RSL` and `PORT` (R14, R30, R36), at other values. -/
def State.withLatches (s : State) (w : Byte) (rsl : Bool) (port : Byte) : State :=
  { s with w := w, rsl := rsl, port := port }

end Sys2Proof.Machine
end

