-- ==== Sys2Proof/Certificates/Slice0/Obligations.lean ====
section
/-! DEFINITION. The statements for the provers, in the order of OBLIGATIONS.json. Every statement holds for every value
of the open parameters (`State.cfg`) that its hypotheses allow. -/

open Sys2Proof Sys2Proof.Machine

/-- R36. The rows the table calls unspecified or unknown (`W`, `RSL`, `PORT`, `EXPLATCH`, `CTRLNIB`) are the draws and
the environment, and are not claimed to have a value. -/
def Obligations.ResetHoldsTableValues : Prop :=
  (∀ (p : Params) (r : ResetInput) (env : Env),
    let s := State.resetWith p r env
    s.ph = .idle ∧ s.item = 0 ∧ s.busy = false ∧ s.status = .ok ∧ s.fault = false ∧ s.func = p.funcReset ∧
      s.dctl = p.dctlReset ∧ s.emode = p.emodeReset ∧ s.dshift = p.dshiftReset ∧ s.bl = r.backlight ∧
      s.pwrup = r.pwrup ∧ s.numLines = 0#3 ∧ s.numCols = 0#8 ∧ s.configured = false) ∧
  State.reset.func = 0x00#8 ∧ State.reset.dctl = 0x04#8 ∧ State.reset.emode = 0x02#8 ∧ State.reset.dshift = 0x00#8 ∧
  State.reset.bl = true ∧ State.reset.pwrup = false

/-- R153. In any state, whatever is running, the reset event leaves the values of R36 with the straps sampled, with no
`STATUS` of the abandoned operation; and no other step clears `FAULT`, `CONFIGURED` or the geometry. -/
def Obligations.ResetEventRestoresAndAloneClears : Prop :=
  (∀ (s : State) (r : ResetInput), s.rst = some r →
    ∃ t, step s = .next t ∧
      t.ph = .idle ∧ t.item = 0 ∧ t.busy = false ∧ t.status = .ok ∧ t.fault = false ∧ t.func = s.cfg.funcReset ∧
      t.dctl = s.cfg.dctlReset ∧ t.emode = s.cfg.emodeReset ∧ t.dshift = s.cfg.dshiftReset ∧ t.bl = r.backlight ∧
      t.pwrup = r.pwrup ∧ t.numLines = 0#3 ∧ t.numCols = 0#8 ∧ t.configured = false ∧ t.expansion = [] ∧ t.rx = []) ∧
  (∀ s t : State, s.rst = none → step s = .next t →
    (s.fault = true → t.fault = true) ∧
      (s.configured = true → t.configured = true ∧ t.numLines = s.numLines ∧ t.numCols = s.numCols))

/-- R154 (no event) with R156 (the environment is not reset): the reset event leaves the trace and the environment alone.
That what the host and the transport hold out survives a reset is the model's choice (assumption log entry 15). -/
def Obligations.ResetEventEmitsNothing : Prop :=
  ∀ (s : State) (r : ResetInput), s.rst = some r →
    ∃ t, step s = .next t ∧ t.trace = s.trace ∧ t.env = s.env ∧ t.reqIn = s.reqIn ∧ t.answers = s.answers ∧
      t.cfg = s.cfg ∧ t.rst = none

/-- The invariant holds after reset. -/
def Obligations.InvariantHoldsAtReset : Prop := Inv State.reset

/-- Every step keeps the invariant, from every state that has it. -/
def Obligations.StepKeepsInvariant : Prop := ∀ s t : State, Inv s → step s = .next t → Inv t

/-- Under the invariant no step stops: every step answers a next state. -/
def Obligations.StepNeverStops : Prop := ∀ s : State, Inv s → ∃ t, step s = .next t

/-- R31: it holds after reset, and every step keeps it; with the spec's flag values the masks are those of the rule. -/
def Obligations.NoUndefinedRegisterBits : Prop :=
  (∀ (p : Params) (r : ResetInput) (env : Env), p.wfResets = true → RegistersClean (State.resetWith p r env)) ∧
  (∀ s t : State, RegistersClean s → step s = .next t → RegistersClean t) ∧
  Params.spec.funcBits = 0x08#8 ||| 0x04#8 ∧ Params.spec.dctlBits = 0x07#8 ∧ Params.spec.emodeBits = 0x03#8

/-- R84: no port write, successful or failed, ever has the read/write line set. -/
def Obligations.ReadWriteLineNeverSet : Prop :=
  RwClear State.reset ∧ ∀ s t : State, Inv s → RwClear s → step s = .next t → RwClear t

/-- Encode then decode is the identity on requests, whatever follows in the stream. -/
def Obligations.RequestDecodesToItself : Prop :=
  ∀ (i : Instr) (rest : List Byte), i.wellFormed = true → i.isRequest = true →
    ∃ bytes, encode i = .request bytes ∧ decodeRequest (bytes ++ rest) = .instr i rest

/-- Decode then encode is the identity on the request encodings that are not reserved, and what is decoded is a
well-formed request. -/
def Obligations.DecodedRequestEncodesBack : Prop :=
  ∀ (i : Instr) (stream rest : List Byte), decodeRequest stream = .instr i rest →
    i.wellFormed = true ∧ i.isRequest = true ∧ ∃ bytes, encode i = .request bytes ∧ stream = bytes ++ rest

/-- Controller words: encode then decode, and decode then encode, are identities. -/
def Obligations.TransferWordsAgree : Prop :=
  (∀ i : Instr, i.isRequest = false → ∃ tw, encode i = .word tw ∧ decodeTransferWord tw = some i) ∧
  (∀ (tw : BitVec 9) (i : Instr), decodeTransferWord tw = some i → encode i = .word tw ∧ i.isRequest = false)

/-- Rows of R63 and R59 written out, decoded. -/
def Obligations.SpecEncodingsDecode : Prop :=
  decodeRequest [0x01#8, 0x14#8, 0x04#8] = .instr (.begin 20#8 4#8) [] ∧
  decodeRequest [0x02#8, 0x00#8, 0x00#8] = .instr .init [] ∧
  decodeRequest [0x11#8, 0x01#8, 0x01#8] = .instr (.setCursor 1#8 1#8) [] ∧
  decodeRequest [0x12#8, 0x41#8, 0x00#8] = .instr (.putChar 0x41#8) [] ∧
  decodeRequest [0x13#8, 0x01#8, 0x05#8, 0x41#8, 0x42#8, 0x0A#8, 0x43#8, 0x44#8] =
    .instr (.message 1#8 [0x41#8, 0x42#8, 0x0A#8, 0x43#8, 0x44#8]) [] ∧
  decodeRequest [0x14#8, 0x00#8, 0x01#8, 0x58#8] = .instr (.putString [0x58#8]) [] ∧
  decodeRequest [0x15#8, 0x40#8, 0x00#8] = .instr (.wrCmd 0x40#8) [] ∧
  decodeRequest [0x10#8, 0x00#8, 0x00#8] = .instr .scrollR [] ∧
  decodeRequest [0xFF#8, 0x07#8, 0x09#8] = .reserved (.opcode 0xFF#8) [] ∧
  decodeTransferWord 0b000001101#9 = some (.twDisplayControl 1#1 0#1 1#1) ∧
  decodeTransferWord 0b000101000#9 = some (.twFunctionSet 1#1 0#1) ∧
  decodeTransferWord 0b101000001#9 = some (.twData 0x41#8)

/-- R64, R73 step 4: which requests are reserved, and how much of the stream they take. -/
def Obligations.ReservedHeadersAreNamed : Prop :=
  (∀ (op a b : Byte) (tail : List Byte), op = 0x00#8 ∨ 0x16 ≤ op.toNat →
    decodeRequest (op :: a :: b :: tail) = .reserved (.opcode op) tail) ∧
  (∀ (op a b : Byte) (tail : List Byte), 0x02 ≤ op.toNat → op.toNat ≤ 0x10 → (a ≠ 0#8 ∨ b ≠ 0#8) →
    decodeRequest (op :: a :: b :: tail) = .reserved (.mustBeZero op a b) tail) ∧
  (∀ (op a b : Byte) (tail : List Byte), op = 0x12#8 ∨ op = 0x15#8 → b ≠ 0#8 →
    decodeRequest (op :: a :: b :: tail) = .reserved (.mustBeZero op a b) tail) ∧
  (∀ (a b : Byte) (text rest : List Byte), a ≠ 0#8 → text.length = b.toNat →
    decodeRequest (0x14#8 :: a :: b :: text ++ rest) = .reserved (.mustBeZero 0x14#8 a b) rest)

/-- The step theorem for requests: idle or half-received, with the reset input released, a step whose stream holds a
whole request takes exactly its bytes and is `exec` of the decoded instruction. -/
def Obligations.StepRunsDecodedRequest : Prop :=
  ∀ (s : State) (i : Instr) (rest : List Byte), s.rst = none → s.running = false →
    decodeRequest (s.rx ++ s.reqIn) = .instr i rest → step s = exec i { s with rx := [], reqIn := rest }

/-- The step theorem for the controller words: the sequencer starts a word transfer by latching and issuing the first
write, whatever the word is (R69, R80). That a word of R59's table is run as the instruction of its row is the model's
choice (assumption log entry 13); the encoder of the spec does not decode the word. -/
def Obligations.StepRunsTransferWord : Prop :=
  ∀ (s : State) (rs : Bool) (w : Byte), s.rst = none → s.running = true → s.ph = .idle →
    s.current = some (.xfer rs w) →
    (∀ i, decodeTransferWord (BitVec.ofBool rs ++ w) = some i → step s = exec i s) ∧
      step s = .next (s.beginXfer rs w)

/-- R62: bytes of a request that is not whole are taken, and `BUSY` rises with byte 0; with nothing presented the idle
block does nothing. -/
def Obligations.IncompleteRequestIsAwaited : Prop :=
  ∀ s : State, s.rst = none → s.running = false → decodeRequest (s.rx ++ s.reqIn) = .incomplete →
    step s = .next { s with rx := s.rx ++ s.reqIn, reqIn := [], busy := decide (s.rx ++ s.reqIn ≠ []) }

/-- R164: while an operation runs, no step takes a byte from the request port, and the control registers keep what the
operation's acceptance has written (R79). -/
def Obligations.RunningOperationHoldsRequestsOff : Prop :=
  ∀ s t : State, s.rst = none → s.running = true → step s = .next t →
    t.reqIn = s.reqIn ∧ t.rx = s.rx ∧ t.cfg = s.cfg ∧ t.rst = none ∧ t.func = s.func ∧ t.dctl = s.dctl ∧
      t.emode = s.emode ∧ t.dshift = s.dshift ∧ t.bl = s.bl ∧ t.pwrup = s.pwrup ∧ t.numLines = s.numLines ∧
      t.numCols = s.numCols ∧ t.configured = s.configured

/-- R64, R73 steps 3 and 4: a reserved request is accepted, and its completion is the next event, with `STATUS = 3`, or 1
under the sticky fault. -/
def Obligations.ReservedRequestIsRejected : Prop :=
  ∀ (s : State) (why : Reserved) (rest : List Byte), s.rst = none → s.running = false →
    decodeRequest (s.rx ++ s.reqIn) = .reserved why rest →
    ∃ t u, step s = .next t ∧ t.outputs = { s.outputs with busy := true } ∧ t.ph = .idle ∧ t.item = 0 ∧
      t.expansion = [] ∧ SameSurroundings { s with rx := [], reqIn := rest } t ∧
      step t = .next u ∧ u.outputs = { s.outputs with busy := false, status := if s.fault then 1#2 else 3#2 } ∧
      u.ph = .idle ∧ u.item = 0 ∧ u.expansion = [] ∧ SameSurroundings { s with rx := [], reqIn := rest } u

/-- R134: every operation but BEGIN, before BEGIN. -/
def Obligations.UnconfiguredOperationIsRejected : Prop :=
  ∀ (i : Instr) (s : State), i.isRequest = true → (∀ cols lines, i ≠ .begin cols lines) → s.fault = false →
    s.configured = false → TurnedAway i s 3#2

/-- R144 for the operations (reserved requests: `ReservedRequestIsRejected`): while `FAULT = 1`. -/
def Obligations.StickyFaultRejectsOperations : Prop :=
  ∀ (i : Instr) (s : State), i.isRequest = true → s.fault = true → TurnedAway i s 1#2

/-- R118, R117, R26, R25: which registers the acceptance of an operation can change. -/
def Obligations.OnlyNamedRegistersChange : Prop :=
  ∀ (i : Instr) (s t : State), i.isRequest = true → exec i s = .next t →
    t.cfg = s.cfg ∧ t.w = s.w ∧ t.rsl = s.rsl ∧ t.dshift = s.dshift ∧ t.bl = s.bl ∧ t.port = s.port ∧
      t.rx = s.rx ∧ t.reqIn = s.reqIn ∧ t.answers = s.answers ∧ t.rst = s.rst ∧ t.env = s.env ∧
      t.trace = s.trace ∧ t.ph = .idle ∧ t.item = 0 ∧
      ((∀ cols lines, i ≠ .begin cols lines) →
        t.func = s.func ∧ t.numLines = s.numLines ∧ t.numCols = s.numCols ∧ t.configured = s.configured) ∧
      (i ∉ [.display, .noDisplay, .cursor, .noCursor, .blink, .noBlink] → t.dctl = s.dctl) ∧
      (i ∉ [.ltr, .rtl, .autoscroll, .noAutoscroll] → t.emode = s.emode) ∧
      (i ≠ .init → t.pwrup = s.pwrup)

/-- R119: BEGIN in its domain, once. -/
def Obligations.BeginSetsGeometry : Prop :=
  ∀ (s : State) (cols lines : Byte), s.fault = false → s.configured = false → s.rst = none → s.rx = [] →
    cols ≠ 0#8 → 1 ≤ lines.toNat → lines.toNat ≤ 4 →
    Completes (.begin cols lines) s
      { s with
        numCols := cols
        numLines := BitVec.ofNat 3 lines.toNat
        func := if 2 ≤ lines.toNat then s.func ||| s.cfg.line2 else s.func &&& ~~~s.cfg.line2
        configured := true }
      []

/-- R120: BEGIN outside its domain, or a second time. -/
def Obligations.BeginRejectsInvalidGeometry : Prop :=
  ∀ (s : State) (cols lines : Byte), s.fault = false →
    cols = 0#8 ∨ lines = 0#8 ∨ 4 < lines.toNat ∨ s.configured = true → TurnedAway (.begin cols lines) s 2#2

/-- R121, R123: INIT, on both values of `PWRUP`; `post` is the delay `T_CMD` after a word (R11). -/
def Obligations.InitRunsBringUpSequence : Prop :=
  ∀ s : State, Ready s → s.cfg.wfMasks = true → Answered s (if s.pwrup then 38 else 35) →
    let post : List Item := if s.cfg.tCmd = 0 then [] else [.delay s.cfg.tCmd]
    Completes .init s { s with pwrup := false }
      ((if s.pwrup then [.raw s.cfg.initNibble, .delay 10000] else []) ++
        [.xfer false (s.cfg.functionSet ||| s.func)] ++ post ++
        [.xfer false (s.cfg.displayControl ||| s.dctl)] ++ post ++
        [.xfer false (s.cfg.entryModeSet ||| s.emode)] ++ post ++
        [.xfer false s.cfg.clearDisplay, .delay 3000, .xfer false s.cfg.returnHome, .delay 3000])

/-- R124, R125. -/
def Obligations.ClearAndHomeSendAndDelay : Prop :=
  ∀ s : State, Ready s → s.cfg.wfMasks = true → Answered s 7 →
    Completes .clear s s [.xfer false s.cfg.clearDisplay, .delay 3000] ∧
      Completes .home s s [.xfer false s.cfg.returnHome, .delay 3000]

/-- R103 to R108; `post` is the delay `T_CMD` after a word (R11). -/
def Obligations.DisplayControlToggles : Prop :=
  ∀ s : State, Ready s → s.cfg.wfMasks = true → Answered s 7 →
    let post : List Item := if s.cfg.tCmd = 0 then [] else [.delay s.cfg.tCmd]
    (let v := s.dctl ||| s.cfg.displayOn;
      Completes .display s { s with dctl := v } ([.xfer false (s.cfg.displayControl ||| v)] ++ post)) ∧
    (let v := s.dctl &&& ~~~s.cfg.displayOn;
      Completes .noDisplay s { s with dctl := v } ([.xfer false (s.cfg.displayControl ||| v)] ++ post)) ∧
    (let v := s.dctl ||| s.cfg.cursorOn;
      Completes .cursor s { s with dctl := v } ([.xfer false (s.cfg.displayControl ||| v)] ++ post)) ∧
    (let v := s.dctl &&& ~~~s.cfg.cursorOn;
      Completes .noCursor s { s with dctl := v } ([.xfer false (s.cfg.displayControl ||| v)] ++ post)) ∧
    (let v := s.dctl ||| s.cfg.blinkOn;
      Completes .blink s { s with dctl := v } ([.xfer false (s.cfg.displayControl ||| v)] ++ post)) ∧
    (let v := s.dctl &&& ~~~s.cfg.blinkOn;
      Completes .noBlink s { s with dctl := v } ([.xfer false (s.cfg.displayControl ||| v)] ++ post))

/-- R109 to R112; `post` is the delay `T_CMD` after a word (R11). -/
def Obligations.EntryModeToggles : Prop :=
  ∀ s : State, Ready s → s.cfg.wfMasks = true → Answered s 7 →
    let post : List Item := if s.cfg.tCmd = 0 then [] else [.delay s.cfg.tCmd]
    (let v := s.emode ||| s.cfg.entryLeft;
      Completes .ltr s { s with emode := v } ([.xfer false (s.cfg.entryModeSet ||| v)] ++ post)) ∧
    (let v := s.emode &&& ~~~s.cfg.entryLeft;
      Completes .rtl s { s with emode := v } ([.xfer false (s.cfg.entryModeSet ||| v)] ++ post)) ∧
    (let v := s.emode ||| s.cfg.shiftIncrement;
      Completes .autoscroll s { s with emode := v } ([.xfer false (s.cfg.entryModeSet ||| v)] ++ post)) ∧
    (let v := s.emode &&& ~~~s.cfg.shiftIncrement;
      Completes .noAutoscroll s { s with emode := v } ([.xfer false (s.cfg.entryModeSet ||| v)] ++ post))

/-- R113, R114; no register is read or written. `post` is the delay `T_CMD` after a word (R11). -/
def Obligations.ScrollsSendConstantWord : Prop :=
  ∀ s : State, Ready s → s.cfg.wfMasks = true → Answered s 7 →
    let post : List Item := if s.cfg.tCmd = 0 then [] else [.delay s.cfg.tCmd]
    Completes .scrollL s s ([.xfer false (s.cfg.cursorShift ||| s.cfg.displayMove ||| s.cfg.moveLeft)] ++ post) ∧
      Completes .scrollR s s ([.xfer false (s.cfg.cursorShift ||| s.cfg.displayMove ||| s.cfg.moveRight)] ++ post)

/-- R96 with R95 and R97: the clamped row, the single decrement of the column, the low seven bits. `post` is the delay
`T_CMD` after a word (R11). -/
def Obligations.SetCursorSendsAddress : Prop :=
  ∀ (s : State) (col row : Byte), Ready s → s.cfg.wfMasks = true → Answered s 7 → 1 ≤ s.numLines.toNat →
    s.numLines.toNat ≤ 4 → col ≠ 0#8 → row ≠ 0#8 →
    let r := min row.toNat s.numLines.toNat
    let sum := [0x00, 0x40, 0x14, 0x54][r - 1]?.getD 0 + (col.toNat - 1)
    let post : List Item := if s.cfg.tCmd = 0 then [] else [.delay s.cfg.tCmd]
    Completes (.setCursor col row) s s ([.xfer false (s.cfg.setDdramAddr ||| BitVec.ofNat 8 (sum % 128))] ++ post)

/-- R98; and in the states no run reaches, where the clamped row has no `ROWOFF` entry (R93), the machine stops, which is
the model's choice (assumption log entry 9). -/
def Obligations.SetCursorDomain : Prop :=
  (∀ (s : State) (col row : Byte), s.fault = false → s.configured = true → col = 0#8 ∨ row = 0#8 →
    TurnedAway (.setCursor col row) s 3#2) ∧
  (∀ (s : State) (col row : Byte), s.fault = false → s.configured = true → col ≠ 0#8 → row ≠ 0#8 →
    (s.numLines = 0#3 ∨ (4 < s.numLines.toNat ∧ 4 < row.toNat)) →
    exec (.setCursor col row) s = .fault (.noRowOffset (min row.toNat s.numLines.toNat)))

/-- R90, R91; `post` is the delay `T_CMD` after a word (R11). That WRCMD's word is followed by it whatever the word is,
CLEARDISPLAY and RETURNHOME included, which R11 does not ask and which R90 sends with no delay, is the model's choice
where `T_CMD` is not 0 (assumption log entry 2); at the spec's `T_CMD = 0` there is no delay. -/
def Obligations.WrCmdAndPutCharSendOneWord : Prop :=
  ∀ (s : State) (v : Byte), Ready s → s.cfg.wfMasks = true → Answered s 7 →
    let post : List Item := if s.cfg.tCmd = 0 then [] else [.delay s.cfg.tCmd]
    Completes (.wrCmd v) s s ([.xfer false v] ++ post) ∧ Completes (.putChar v) s s ([.xfer true v] ++ post)

/-- R126, R127, R132: the address word of the start line, then word `k + 1` for the text's byte `k`, where the line
reached is counted by the newlines up to there; `post` is the delay `T_CMD` after a word (R11). -/
def Obligations.MessageSendsLinesAndCharacters : Prop :=
  ∀ (s : State) (startLine : Byte) (text : List Byte), Ready s → s.cfg.wfMasks = true →
    Answered s (7 * (1 + text.length)) → 1 ≤ startLine.toNat → startLine.toNat ≤ 4 →
    let lineAddr (k : Nat) : Byte :=
      s.cfg.setDdramAddr |||
        BitVec.ofNat 8
          ([0x00, 0x40, 0x14, 0x54][(startLine.toNat - 1 + (text.take k).count s.cfg.newline) % 4]?.getD 0)
    let post : List Item := if s.cfg.tCmd = 0 then [] else [.delay s.cfg.tCmd]
    ∃ words : List (Bool × Byte),
      words.length = 1 + text.length ∧ words[0]? = some (false, lineAddr 0) ∧
      (∀ k ch, text[k]? = some ch →
        words[k + 1]? = some (if ch = s.cfg.newline then (false, lineAddr (k + 1)) else (true, ch))) ∧
      Completes (.message startLine text) s s (words.flatMap fun word => [.xfer word.1 word.2] ++ post)

/-- R128. -/
def Obligations.MessageRejectsStartLine : Prop :=
  ∀ (s : State) (startLine : Byte) (text : List Byte), s.fault = false → s.configured = true →
    startLine = 0#8 ∨ 4 < startLine.toNat → TurnedAway (.message startLine text) s 3#2

/-- R129: every byte a character, in order; an empty text sends nothing. `post` is the delay `T_CMD` after a word (R11). -/
def Obligations.PutStringSendsVerbatim : Prop :=
  ∀ (s : State) (text : List Byte), Ready s → s.cfg.wfMasks = true → Answered s (7 * text.length) →
    let post : List Item := if s.cfg.tCmd = 0 then [] else [.delay s.cfg.tCmd]
    Completes (.putString text) s s (text.flatMap fun ch => [.xfer true ch] ++ post)

/-- R82, R83, for the eight controller words of R59: the seven port writes with the waits between them, the latches, the
release byte in `PORT` and in the expander (R34(a), R40), and nothing else but the sequencing state and the rest of the
environment. -/
def Obligations.TransferWordMakesSevenWrites : Prop :=
  ∀ (i : Instr) (rs : Bool) (w : Byte) (s : State) (rest : List Answer), i.isRequest = false →
    encode i = .word (BitVec.ofBool rs ++ w) → s.cfg.wfMasks = true → s.rst = none → s.running = true →
    s.current = some (.xfer rs w) → s.answers = List.replicate 7 .ok ++ rest →
    let c := (if rs then s.cfg.rsBit else 0#8) ||| (if s.bl then s.cfg.blBit else 0#8)
    let hi := (w &&& 0xF0#8) ||| c
    let lo := ((w <<< 4) &&& 0xF0#8) ||| c
    let bl := if s.bl then s.cfg.blBit else 0#8
    let wait (t : Nat) : List Event := if t = 0 then [] else [.delay t]
    let es : List Event :=
      [.write hi] ++ wait s.cfg.tSu ++ [.write (hi ||| s.cfg.enBit)] ++ wait s.cfg.tPw ++ [.write hi] ++
        wait s.cfg.tH ++ [.write lo] ++ wait s.cfg.tSu ++ [.write (lo ||| s.cfg.enBit)] ++ wait s.cfg.tPw ++
        [.write lo] ++ wait s.cfg.tH ++ [.write bl]
    ∃ t u, exec i s = .next t ∧ runSteps (es.length - 1) t = .next u ∧
      u = { s with
        w := w, rsl := rs, port := bl, answers := rest, ph := .idle, item := s.item + 1, settle := 0, env := u.env
        trace := s.trace ++ es } ∧
      u.env.expLatch = bl

/-- R87, R83: a raw nibble is three port writes with the waits of its pulse, RS = 0, no release, and leaves the latches
alone (R14); the expander keeps its last byte (R34(a), R40). That no wait `T_H` (R83) follows the EN-cleared write, since
the delay `T_PWRUP` always does, is the model's choice (assumption log entry 2, which says for which `T_H` it fails); at
the spec's `T_H = 0` there is no such wait. -/
def Obligations.RawNibbleMakesThreeWrites : Prop :=
  ∀ (s : State) (n : Nibble) (rest : List Answer), s.cfg.wfMasks = true → s.rst = none → s.running = true →
    s.ph = .idle → s.current = some (.raw n) → s.answers = List.replicate 3 .ok ++ rest →
    let r := (n.setWidth 8 <<< 4) ||| (if s.bl then s.cfg.blBit else 0#8)
    let wait (t : Nat) : List Event := if t = 0 then [] else [.delay t]
    let es : List Event :=
      [.write r] ++ wait s.cfg.tSu ++ [.write (r ||| s.cfg.enBit)] ++ wait s.cfg.tPw ++ [.write r]
    ∃ u, runSteps es.length s = .next u ∧
      u = { s with
        port := r, answers := rest, item := s.item + 1, settle := 0, env := u.env, trace := s.trace ++ es } ∧
      u.env.expLatch = r

/-- R79: the sequencer's one-event steps execute an expansion as the item-by-item reading says, and the operation
completes with `STATUS = 0`. -/
def Obligations.SequencerExecutesExpansion : Prop :=
  ∀ (s : State) (items : List Item), s.cfg.wfMasks = true → s.rst = none → s.rx = [] →
    Answered s (writeCount items) →
    runSteps (stepCount s.cfg items) (s.launch items) = .next (s.finish items)

/-- What a completed expansion leaves: the trace has grown by its events and by nothing else; of the registers only
`PORT`, `BUSY` and `STATUS` (and the latches) differ; the expander holds the last byte written (R34(a), R40). -/
def Obligations.FinishedOperationFrame : Prop :=
  ∀ (s : State) (items : List Item),
    (s.finish items).trace = s.trace ++ eventsOf s.cfg s.bl items ∧
    (s.finish items).outputs =
      { s.outputs with
        busy := false, status := 0#2, port := lastWrite s.port (eventsOf s.cfg s.bl items) } ∧
    (s.finish items).env.expLatch = lastWrite s.env.expLatch (eventsOf s.cfg s.bl items) ∧
    (s.finish items).ph = .idle ∧ (s.finish items).item = 0 ∧ (s.finish items).expansion = [] ∧
    (s.finish items).answers = s.answers.drop (writeCount items) ∧ (s.finish items).reqIn = s.reqIn ∧
    (s.finish items).rx = s.rx ∧ (s.finish items).rst = s.rst ∧ (s.finish items).cfg = s.cfg

/-- R89, R139, R143: the transport fails port write `k` of an expansion: the writes before it happened, it is recorded
as failed, nothing follows, nothing is rolled back. The expander holds the byte of that write if it reached it, else what
it held (R34(a), R40, U2): the last byte written, or before any write of the operation its old byte. -/
def Obligations.TransportFailureEndsOperation : Prop :=
  ∀ (s : State) (items : List Item) (k : Nat) (reached latched : Bool) (rest : List Answer),
    s.cfg.wfMasks = true → s.rst = none → s.rx = [] → delaysPositive items = true → k < writeCount items →
    s.answers = List.replicate k .ok ++ .error reached latched :: rest →
    let all := eventsOf s.cfg s.bl items
    let es := failAt k all
    ∃ t attempted, runSteps es.length (s.launch items) = .next t ∧ t.trace = s.trace ++ es ∧
      (writesOf all)[k]? = some attempted ∧
      t.env.expLatch = (if reached then attempted else lastWrite s.env.expLatch es) ∧
      t.ph = .idle ∧ t.item = 0 ∧ t.expansion = [] ∧ t.answers = rest ∧ t.reqIn = s.reqIn ∧
      t.outputs =
        { s.outputs with busy := false, status := 1#2, fault := true, port := lastWrite s.port es }

/-- R40, R80: until the transport has answered, the operation waits at the write it has issued, in every phase and at the
start of an item. That an empty list of answers means so, and that such a step changes nothing further, is the
model's choice (assumption log entry 11). -/
def Obligations.UnansweredWriteWaits : Prop :=
  (∀ s : State, s.rst = none → s.running = true → s.ph ≠ .idle → s.settle = 0 → s.answers = [] →
    step s = .next s) ∧
  (∀ (s : State) (rs : Bool) (w : Byte), s.rst = none → s.running = true → s.ph = .idle →
    s.current = some (.xfer rs w) → s.answers = [] →
    step s = .next { s with w := w, rsl := rs, ph := .hiData, settle := 0 }) ∧
  (∀ (s : State) (n : Nibble), s.rst = none → s.running = true → s.ph = .idle → s.current = some (.raw n) →
    s.answers = [] → step s = .next { s with ph := .hiData, settle := 0 })

/-- R83, R41, R5: a wait a write owes is an event of its own before the write, and takes no answer of the transport. -/
def Obligations.OwedWaitPrecedesWrite : Prop :=
  ∀ s : State, s.rst = none → s.running = true → s.ph ≠ .idle → s.settle ≠ 0 →
    step s = .next { s with
      settle := 0, env := s.env.wait s.settle, trace := s.trace ++ [.delay s.settle] }

/-- R5, R139, R140, R175: the completion of a request is one event, with the error a check has found or with `OK`, and
`BUSY` falls with it. -/
def Obligations.CompletionIsOneEvent : Prop :=
  ∀ s : State, s.rst = none → s.running = true → s.ph = .idle → s.current = none →
    ∃ t, step s = .next t ∧ t.busy = false ∧ t.ph = .idle ∧ t.item = 0 ∧ t.expansion = [] ∧ t.verdict = none ∧
      SameSurroundings s t ∧
      t.status.code =
        (match s.verdict with
          | none => 0#2
          | some .transport => 1#2
          | some .configuration => 2#2
          | some .request => 3#2) ∧
      t.fault = (s.fault || decide (s.verdict = some .transport)) ∧ t.port = s.port

/-- R81: in every phase of a word transfer the byte written is the multiplexer's function of `PH`, `W`, `RSL` and
`BL`; the shadow and the expander (R34(a), R40) hold it. -/
def Obligations.PhaseByteFollowsMultiplexer : Prop :=
  ∀ (s : State) (rest : List Answer), Inv s → s.rst = none → s.running = true → s.ph ≠ .idle →
    s.settle = 0 → s.current = some (.xfer s.rsl s.w) → s.answers = .ok :: rest →
    ∃ t, step s = .next t ∧ t.port = muxByte s.cfg s.ph s.w s.rsl s.bl ∧
      t.env.expLatch = muxByte s.cfg s.ph s.w s.rsl s.bl ∧
      t.trace = s.trace ++ [.write (muxByte s.cfg s.ph s.w s.rsl s.bl)]

/-- R57: the byte composition is injective, and never sets RW. -/
def Obligations.ExpanderByteInjective : Prop :=
  ∀ (p : Params) (n n' : Nibble) (rs rs' en en' bl bl' : Bool), p.wfMasks = true →
    (expanderByte p n rs en bl = expanderByte p n' rs' en' bl' → n = n' ∧ rs = rs' ∧ en = en' ∧ bl = bl') ∧
      expanderByte p n rs en bl &&& p.rwBit = 0#8

/-- R83, R160: in the writes of any expansion, data and RS change only in a write where EN is 0 both before and
after. -/
def Obligations.DataStableAroundEnable : Prop :=
  ∀ (p : Params) (bl : Bool) (items : List Item), p.wfMasks = true →
    StableAroundEn p (writesOf (eventsOf p bl items))

/-- R76: the reference receiver reads a fault-free operation's words back from its trace; a raw nibble in front is one
unpaired nibble. -/
def Obligations.ReceiverReadsWordsBack : Prop :=
  ∀ (p : Params) (bl : Bool), p.wfMasks = true →
    (∀ rs w, received p (Item.events p bl (.xfer rs w)) = [(rs, w)]) ∧
    (∀ items, noRaw items = true → received p (eventsOf p bl items) = wordsOf items) ∧
    (∀ n items, noRaw items = true →
      (capture p (writesOf (eventsOf p bl (.raw n :: items)))).head? = some (false, n) ∧
        pairNibbles ((capture p (writesOf (eventsOf p bl (.raw n :: items)))).drop 1) = wordsOf items)

/-- R74, of the writes that one word transfer makes: four phases; the first carries the high nibble in its top four bits,
the third the low nibble. An operation of that one transfer extends the trace by exactly these events. -/
def Obligations.FourPhasesPerWord : Prop :=
  ∀ (s : State) (rs : Bool) (w : Byte), s.cfg.wfMasks = true →
    let es := Item.events s.cfg s.bl (.xfer rs w)
    (∃ b1 b2 b3 b4 b5 b6 b7, writesOf es = [b1, b2, b3, b4, b5, b6, b7] ∧
      phases (writesOf es) = [.data b1, .pulse b2 b3, .data b4, .pulse b5 b6] ∧
      b1.extractLsb' 4 4 = w.extractLsb' 4 4 ∧ b4.extractLsb' 4 4 = w.extractLsb' 0 4 ∧
      b2 = b1 ||| s.cfg.enBit ∧ b3 = b1 ∧ b5 = b4 ||| s.cfg.enBit ∧ b6 = b4 ∧
      (b1 ||| b4) &&& s.cfg.enBit = 0#8) ∧
    (s.rst = none → s.rx = [] → Answered s 7 →
      ∃ t, runSteps (stepCount s.cfg [.xfer rs w]) (s.launch [.xfer rs w]) = .next t ∧ t.trace = s.trace ++ es)

/-- R173: the transaction counts, of the expansion each accepted operation has; a request turned away has none. The
delays `T_CMD` after words are the parameter's (R11), none at the table's value 0. -/
def Obligations.TransactionCounts : Prop :=
  (∀ (p : Params) (bl : Bool) (items : List Item),
    (writesOf (eventsOf p bl items)).length = writeCount items) ∧
  (∀ (i : Instr) (s t : State), Ready s → i.isRequest = true → exec i s = .next t →
    (t.verdict ≠ none → writeCount t.expansion = 0 ∧ delaysOf t.expansion = []) ∧
    (t.verdict = none →
      (match i with
        | .begin _ _ => 0
        | .init => if s.pwrup then 38 else 35
        | .message _ text => 7 * (1 + text.length)
        | .putString text => 7 * text.length
        | _ => 7) = writeCount t.expansion ∧
      (s.cfg.tCmd = 0 →
        (match i with
          | .init => if s.pwrup then [10000, 3000, 3000] else [3000, 3000]
          | .clear => [3000]
          | .home => [3000]
          | _ => []) = delaysOf t.expansion)))

/-- R130: without a NEWLINE, MESSAGE is SETCURSOR to column 1 of the line followed by PUTSTRING. -/
def Obligations.MessageIsSetCursorThenPutString : Prop :=
  ∀ (s : State) (l : Byte) (text : List Byte), Ready s → s.numLines.toNat ≤ 4 → 1 ≤ l.toNat →
    l.toNat ≤ s.numLines.toNat → s.cfg.newline ∉ text →
    ∃ t1 t2 t3, exec (.message l text) s = .next t1 ∧ exec (.setCursor 1#8 l) s = .next t2 ∧
      exec (.putString text) s = .next t3 ∧
      eventsOf s.cfg s.bl t1.expansion = eventsOf s.cfg s.bl t2.expansion ++ eventsOf s.cfg s.bl t3.expansion

/-- R115: a toggle twice leaves its register as a toggle once, and emits its word again. -/
def Obligations.TogglesIdempotent : Prop :=
  ∀ (i : Instr) (s : State), Ready s →
    i ∈ [Instr.display, .noDisplay, .cursor, .noCursor, .blink, .noBlink, .ltr, .rtl, .autoscroll, .noAutoscroll] →
    ∃ t u, exec i s = .next t ∧ exec i t = .next u ∧ u.dctl = t.dctl ∧ u.emode = t.emode ∧
      u.expansion = t.expansion ∧ writeCount u.expansion = 7

/-- R116: setting then clearing a bit that was clear restores the register; the pair always leaves the bit clear, and
the other order leaves it set; the other bits are never disturbed. -/
def Obligations.TogglesRoundTrip : Prop :=
  ∀ s : State, Ready s →
    (∀ p ∈ [(Instr.display, Instr.noDisplay, s.cfg.displayOn), (.cursor, .noCursor, s.cfg.cursorOn),
        (.blink, .noBlink, s.cfg.blinkOn)],
      ∃ t u t' u', exec p.1 s = .next t ∧ exec p.2.1 t = .next u ∧ exec p.2.1 s = .next t' ∧ exec p.1 t' = .next u' ∧
        u.dctl = s.dctl &&& ~~~p.2.2 ∧ u'.dctl = s.dctl ||| p.2.2 ∧ (s.dctl &&& p.2.2 = 0#8 → u.dctl = s.dctl) ∧
        u.emode = s.emode ∧ u'.emode = s.emode) ∧
    (∀ p ∈ [(Instr.ltr, Instr.rtl, s.cfg.entryLeft), (.autoscroll, .noAutoscroll, s.cfg.shiftIncrement)],
      ∃ t u t' u', exec p.1 s = .next t ∧ exec p.2.1 t = .next u ∧ exec p.2.1 s = .next t' ∧ exec p.1 t' = .next u' ∧
        u.emode = s.emode &&& ~~~p.2.2 ∧ u'.emode = s.emode ||| p.2.2 ∧ (s.emode &&& p.2.2 = 0#8 → u.emode = s.emode) ∧
        u.dctl = s.dctl ∧ u'.dctl = s.dctl)

/-- R101(b): a row beyond the configured lines sends the word of the last configured line. -/
def Obligations.RowBeyondLinesIsClamped : Prop :=
  ∀ (s : State) (col row : Byte), Ready s → 1 ≤ s.numLines.toNat → s.numLines.toNat ≤ 4 → col ≠ 0#8 →
    s.numLines.toNat < row.toNat →
    ∃ t, exec (.setCursor col row) s = .next t ∧
      exec (.setCursor col (BitVec.ofNat 8 s.numLines.toNat)) s = .next t ∧ t.verdict = none ∧ t.expansion ≠ []

/-- R161, R162 (with R34(c)): CLEAR, HOME and INIT complete with no wait owed to the controller; WRCMD of CLEARDISPLAY
or RETURNHOME leaves the wait to the host. -/
def Obligations.SettleTimeIsWaitedOut : Prop :=
  ∀ s : State, s.env.busyTime = 0 →
    (s.finish (clearItems s.cfg)).env.busyTime = 0 ∧ (s.finish (homeItems s.cfg)).env.busyTime = 0 ∧
      (s.finish (initItems s)).env.busyTime = 0 ∧
      (s.finish [.xfer false s.cfg.clearDisplay]).env.busyTime = 3000 ∧
      (s.finish [.xfer false s.cfg.returnHome]).env.busyTime = 3000

/-- R34(b), R89: a complete word leaves the controller's nibble phase where it found it; a failure that leaves the
expander and the controller untouched leaves it flipped exactly between the two pulses. -/
def Obligations.NibblePhaseAfterWord : Prop :=
  ∀ (i : Instr) (rs : Bool) (w : Byte) (s : State) (rest : List Answer), i.isRequest = false →
    encode i = .word (BitVec.ofBool rs ++ w) → s.cfg.wfMasks = true → s.rst = none → s.running = true →
    s.current = some (.xfer rs w) → s.env.expLatch &&& s.cfg.enBit = 0#8 →
    let es := Item.events s.cfg s.bl (.xfer rs w)
    (s.answers = List.replicate 7 .ok ++ rest →
      ∃ t u, exec i s = .next t ∧ runSteps (es.length - 1) t = .next u ∧ u.item = s.item + 1 ∧
        u.env.ctrlNib = s.env.ctrlNib) ∧
    (∀ k, k < 7 → s.answers = List.replicate k .ok ++ .error false false :: rest →
      ∃ t u, exec i s = .next t ∧ runSteps ((failAt k es).length - 1) t = .next u ∧ u.busy = false ∧
        u.env.ctrlNib = if 3 ≤ k ∧ k ≤ 5 then s.env.ctrlNib.flip else s.env.ctrlNib)

/-- R34(c), R143, R161: the wait after CLEARDISPLAY or RETURNHOME is owed as soon as the controller has both nibbles,
whether the transfer then ends well or not; and the wait after a raw nibble likewise. From which moment it is owed is
the model's choice (assumption log entry 10). -/
def Obligations.LatchedCommandOwesItsWait : Prop :=
  (∀ (s : State) (w : Byte), s.rst = none → s.running = true → s.settle = 0 → s.current = some (.xfer false w) →
    w = s.cfg.clearDisplay ∨ w = s.cfg.returnHome →
    (∀ rest, s.ph = .loEn0 → s.answers = .ok :: rest →
      ∃ t, step s = .next t ∧ t.ph = .release ∧ 3000 ≤ t.env.busyTime) ∧
    (∀ reached latched rest, s.ph = .loEn0 → s.answers = .error reached latched :: rest →
      ∃ t, step s = .next t ∧ t.busy = false ∧
        t.env.busyTime = if latched then max s.env.busyTime 3000 else s.env.busyTime) ∧
    (∀ reached latched rest, s.ph = .release → s.answers = .error reached latched :: rest →
      ∃ t, step s = .next t ∧ t.busy = false ∧ t.env.busyTime = s.env.busyTime)) ∧
  (∀ (s : State) (n : Nibble) (reached latched : Bool) (rest : List Answer), s.rst = none → s.running = true →
    s.settle = 0 → s.current = some (.raw n) → s.ph = .hiEn0 → s.answers = .error reached latched :: rest →
    ∃ t, step s = .next t ∧ t.busy = false ∧
      t.env.busyTime = if latched then max s.env.busyTime 10000 else s.env.busyTime)

/-- R25, R123: without a reset nothing sets `PWRUP`, and an accepted INIT clears it, so the power-up path runs at most
once per reset. -/
def Obligations.PowerUpFlagIsOneTime : Prop :=
  (∀ s t : State, s.rst = none → s.pwrup = false → step s = .next t → t.pwrup = false) ∧
  (∀ s : State, Ready s → ∃ t, exec .init s = .next t ∧ t.pwrup = false ∧
    ((∃ n, .raw n ∈ t.expansion) ↔ s.pwrup = true))

/-- R14, R30, R36 (U9, U10): from an idle sequencer, no trace, status or output other than `PORT` itself depends on
what `W`, `RSL` and `PORT` hold. -/
def Obligations.UnspecifiedLatchesAreUnobservable : Prop :=
  ∀ (s t : State) (w : Byte) (rsl : Bool) (port : Byte) (n : Nat), s.ph = .idle →
    runSteps n s = .next t →
    ∃ t', runSteps n (s.withLatches w rsl port) = .next t' ∧ t'.trace = t.trace ∧
      t'.env = t.env ∧ t'.reqIn = t.reqIn ∧ t'.answers = t.answers ∧
      { t'.outputs with port := 0#8 } = { t.outputs with port := 0#8 }

/-- R175: every running operation ends, when the transport answers its port writes, whatever the answers are. -/
def Obligations.EveryOperationEnds : Prop :=
  ∀ s : State, Inv s → s.rst = none → s.running = true → writeCount s.expansion ≤ s.answers.length →
    ∃ n t, n ≤ stepCount s.cfg s.expansion ∧ runSteps n s = .next t ∧ t.busy = false

/-- R40, R30, R34(a), U2: what any step but the reset event does to `PORT` and to the expander's byte. A step appends at
most one event; after a successful write of `b` both hold `b`; after a failed one `PORT` keeps its byte and the expander
has its old byte or the attempted one; in every other step both stay. -/
def Obligations.WritesAloneReachTheExpander : Prop :=
  ∀ s t : State, s.rst = none → step s = .next t →
    (∃ b, t.trace = s.trace ++ [.write b] ∧ t.port = b ∧ t.env.expLatch = b) ∨
    (∃ b, t.trace = s.trace ++ [.writeFail b] ∧ t.port = s.port ∧
      (t.env.expLatch = b ∨ t.env.expLatch = s.env.expLatch)) ∨
    ((t.trace = s.trace ∨ ∃ d, t.trace = s.trace ++ [.delay d]) ∧ t.port = s.port ∧
      t.env.expLatch = s.env.expLatch)
end

