-- ==== Sys2Proof/Laws/Bytes.lean ====
section
/-! SUPPORT. The control masks as concrete bytes, and what EN does to a byte that has it clear. -/

namespace Sys2Proof.Machine

/-- A low mask is one of the four bytes of R7. -/
theorem lowMask_cases {m : Byte} (h : lowMask m = true) : m = 1#8 ∨ m = 2#8 ∨ m = 4#8 ∨ m = 8#8 := by
  simpa [lowMask, or_assoc] using h

/-- R7, unpacked: four low masks, pairwise distinct. -/
theorem wfMasks_spec {p : Params} (h : p.wfMasks = true) :
    lowMask p.rsBit = true ∧ lowMask p.rwBit = true ∧ lowMask p.enBit = true ∧ lowMask p.blBit = true ∧
      p.rsBit ≠ p.rwBit ∧ p.rsBit ≠ p.enBit ∧ p.rsBit ≠ p.blBit ∧ p.rwBit ≠ p.enBit ∧ p.rwBit ≠ p.blBit ∧
      p.enBit ≠ p.blBit := by
  simpa [Params.wfMasks, and_assoc] using h

theorem wf_wfMasks {p : Params} (h : p.wf = true) : p.wfMasks = true := by
  simp only [Params.wf, Bool.and_eq_true] at h
  exact h.1.1

/-- A byte is EN-clear. -/
abbrev EnClear (p : Params) (b : Byte) : Prop := b &&& p.enBit = 0#8

/-- Two distinct low masks share no bit. -/
theorem lowMask_disjoint {m n : Byte} (hm : lowMask m = true) (hn : lowMask n = true) (h : m ≠ n) : m &&& n = 0#8 := by
  rcases lowMask_cases hm with rfl | rfl | rfl | rfl <;> rcases lowMask_cases hn with rfl | rfl | rfl | rfl <;>
    first | rfl | exact absurd rfl h

/-- A low mask is not 0. -/
theorem lowMask_ne_zero {m : Byte} (hm : lowMask m = true) : m ≠ 0#8 := by
  rcases lowMask_cases hm with rfl | rfl | rfl | rfl <;> decide

/-- A high-nibble byte shares no bit with a low mask. -/
theorem highNibble_disjoint {m : Byte} (hm : lowMask m = true) (v : Byte) : (v &&& 0xF0#8) &&& m = 0#8 := by
  have h : 0xF0#8 &&& m = 0#8 := by rcases lowMask_cases hm with rfl | rfl | rfl | rfl <;> rfl
  rw [BitVec.and_assoc, h, BitVec.and_zero]

theorem lineBit_and {a b : Byte} (on : Bool) (h : a &&& b = 0#8) : lineBit on a &&& b = 0#8 := by
  cases on <;> simp [lineBit, h]

theorem or_and_zero {a b m : Byte} (ha : a &&& m = 0#8) (hb : b &&& m = 0#8) : (a ||| b) &&& m = 0#8 := by
  refine BitVec.eq_of_getLsbD_eq fun i hi => ?_
  have h1 := congrArg (fun v : Byte => v.getLsbD i) ha
  have h2 := congrArg (fun v : Byte => v.getLsbD i) hb
  simp only [BitVec.getLsbD_and, BitVec.getLsbD_zero, Bool.and_eq_false_iff] at h1 h2
  rcases h1 with h1 | h1 <;> rcases h2 with h2 | h2 <;> simp [h1, h2]

/-- Setting EN and clearing it again gives an EN-clear byte back (R83). -/
theorem withoutEn_withEn {p : Params} {b : Byte} (h : EnClear p b) : withoutEn p (withEn p b) = b := by
  refine BitVec.eq_of_getLsbD_eq fun i hi => ?_
  have h1 := congrArg (fun v : Byte => v.getLsbD i) h
  simp only [BitVec.getLsbD_and, BitVec.getLsbD_zero, Bool.and_eq_false_iff] at h1
  rcases h1 with h1 | h1 <;> rw [BitVec.getLsbD_eq_getElem hi] at h1 <;> simp [withoutEn, withEn, h1, hi]

theorem controlBits_enClear {p : Params} (h : p.wfMasks = true) (rs bl : Bool) : EnClear p (controlBits p rs bl) := by
  obtain ⟨h1, -, h3, h4, -, h6, -, -, -, h10⟩ := wfMasks_spec h
  exact or_and_zero (lineBit_and rs (lowMask_disjoint h1 h3 h6)) (lineBit_and bl (lowMask_disjoint h4 h3 h10.symm))

theorem hiByte_enClear {p : Params} (h : p.wfMasks = true) (rs bl : Bool) (w : Byte) : EnClear p (hiByte p rs bl w) :=
  or_and_zero (highNibble_disjoint (wfMasks_spec h).2.2.1 w) (controlBits_enClear h rs bl)

theorem loByte_enClear {p : Params} (h : p.wfMasks = true) (rs bl : Bool) (w : Byte) : EnClear p (loByte p rs bl w) :=
  or_and_zero (highNibble_disjoint (wfMasks_spec h).2.2.1 _) (controlBits_enClear h rs bl)

theorem releaseByte_enClear {p : Params} (h : p.wfMasks = true) (bl : Bool) : EnClear p (releaseByte p bl) := by
  obtain ⟨-, -, h3, h4, -, -, -, -, -, h10⟩ := wfMasks_spec h
  exact lineBit_and bl (lowMask_disjoint h4 h3 h10.symm)

theorem rawByte_eq_hiByte (p : Params) (bl : Bool) (n : Nibble) :
    rawByte p bl n = hiByte p false bl (n.setWidth 8 <<< 4) := by
  have h : ∀ n : Nibble, ((n.setWidth 8 <<< 4) &&& 0xF0#8 : Byte) = n.setWidth 8 <<< 4 := by decide
  simp [rawByte, hiByte, controlBits, lineBit, h n]

/-- R88: a wait writes nothing. -/
@[simp] theorem writesOf_waitEvents (t : Nat) : writesOf (waitEvents t) = [] := by
  unfold waitEvents
  split <;> rfl

/-- The writes of two stretches of a trace, one after the other. -/
@[simp] theorem writesOf_append (es fs : List Event) : writesOf (es ++ fs) = writesOf es ++ writesOf fs := by
  induction es with
  | nil => rfl
  | cons e es ih => cases e <;> simp [writesOf, ih]

/-- R83: a strobe writes the data byte, then the two bytes of its pulse. -/
@[simp] theorem writesOf_strobeEvents (p : Params) (b : Byte) :
    writesOf (strobeEvents p b) = [b, b ||| p.enBit, b] := by
  simp [strobeEvents, writesOf]

/-- R82: the seven bytes that a word transfer's events write. -/
theorem writesOf_xfer (p : Params) (bl rs : Bool) (w : Byte) :
    writesOf (Item.events p bl (.xfer rs w)) = xferBytes p bl rs w := by
  simp [Item.events, xferBytes, writesOf]

theorem rawByte_enClear {p : Params} (h : p.wfMasks = true) (bl : Bool) (n : Nibble) : EnClear p (rawByte p bl n) := by
  rw [rawByte_eq_hiByte]
  exact hiByte_enClear h _ _ _

end Sys2Proof.Machine
end

