-- ==== Sys2Proof/Laws/State.lean ====
section
/-! SUPPORT. One lemma per field per named state update, each true by rfl: later proofs read a field through an update
without unfolding it. -/

namespace Sys2Proof.Machine

@[simp] theorem emit_cfg (s : State) (e : Event) : (s.emit e).cfg = s.cfg := rfl
@[simp] theorem emit_w (s : State) (e : Event) : (s.emit e).w = s.w := rfl
@[simp] theorem emit_rsl (s : State) (e : Event) : (s.emit e).rsl = s.rsl := rfl
@[simp] theorem emit_ph (s : State) (e : Event) : (s.emit e).ph = s.ph := rfl
@[simp] theorem emit_item (s : State) (e : Event) : (s.emit e).item = s.item := rfl
@[simp] theorem emit_busy (s : State) (e : Event) : (s.emit e).busy = s.busy := rfl
@[simp] theorem emit_status (s : State) (e : Event) : (s.emit e).status = s.status := rfl
@[simp] theorem emit_fault (s : State) (e : Event) : (s.emit e).fault = s.fault := rfl
@[simp] theorem emit_func (s : State) (e : Event) : (s.emit e).func = s.func := rfl
@[simp] theorem emit_dctl (s : State) (e : Event) : (s.emit e).dctl = s.dctl := rfl
@[simp] theorem emit_emode (s : State) (e : Event) : (s.emit e).emode = s.emode := rfl
@[simp] theorem emit_dshift (s : State) (e : Event) : (s.emit e).dshift = s.dshift := rfl
@[simp] theorem emit_bl (s : State) (e : Event) : (s.emit e).bl = s.bl := rfl
@[simp] theorem emit_pwrup (s : State) (e : Event) : (s.emit e).pwrup = s.pwrup := rfl
@[simp] theorem emit_numLines (s : State) (e : Event) : (s.emit e).numLines = s.numLines := rfl
@[simp] theorem emit_numCols (s : State) (e : Event) : (s.emit e).numCols = s.numCols := rfl
@[simp] theorem emit_configured (s : State) (e : Event) : (s.emit e).configured = s.configured := rfl
@[simp] theorem emit_port (s : State) (e : Event) : (s.emit e).port = s.port := rfl
@[simp] theorem emit_expansion (s : State) (e : Event) : (s.emit e).expansion = s.expansion := rfl
@[simp] theorem emit_settle (s : State) (e : Event) : (s.emit e).settle = s.settle := rfl
@[simp] theorem emit_verdict (s : State) (e : Event) : (s.emit e).verdict = s.verdict := rfl
@[simp] theorem emit_rx (s : State) (e : Event) : (s.emit e).rx = s.rx := rfl
@[simp] theorem emit_reqIn (s : State) (e : Event) : (s.emit e).reqIn = s.reqIn := rfl
@[simp] theorem emit_answers (s : State) (e : Event) : (s.emit e).answers = s.answers := rfl
@[simp] theorem emit_rst (s : State) (e : Event) : (s.emit e).rst = s.rst := rfl
@[simp] theorem emit_env (s : State) (e : Event) : (s.emit e).env = s.env := rfl
@[simp] theorem emit_trace (s : State) (e : Event) : (s.emit e).trace = s.trace ++ [e] := rfl

@[simp] theorem portWrite_cfg (s : State) (b : Byte) : (s.portWrite b).cfg = s.cfg := rfl
@[simp] theorem portWrite_w (s : State) (b : Byte) : (s.portWrite b).w = s.w := rfl
@[simp] theorem portWrite_rsl (s : State) (b : Byte) : (s.portWrite b).rsl = s.rsl := rfl
@[simp] theorem portWrite_ph (s : State) (b : Byte) : (s.portWrite b).ph = s.ph := rfl
@[simp] theorem portWrite_item (s : State) (b : Byte) : (s.portWrite b).item = s.item := rfl
@[simp] theorem portWrite_busy (s : State) (b : Byte) : (s.portWrite b).busy = s.busy := rfl
@[simp] theorem portWrite_status (s : State) (b : Byte) : (s.portWrite b).status = s.status := rfl
@[simp] theorem portWrite_fault (s : State) (b : Byte) : (s.portWrite b).fault = s.fault := rfl
@[simp] theorem portWrite_func (s : State) (b : Byte) : (s.portWrite b).func = s.func := rfl
@[simp] theorem portWrite_dctl (s : State) (b : Byte) : (s.portWrite b).dctl = s.dctl := rfl
@[simp] theorem portWrite_emode (s : State) (b : Byte) : (s.portWrite b).emode = s.emode := rfl
@[simp] theorem portWrite_dshift (s : State) (b : Byte) : (s.portWrite b).dshift = s.dshift := rfl
@[simp] theorem portWrite_bl (s : State) (b : Byte) : (s.portWrite b).bl = s.bl := rfl
@[simp] theorem portWrite_pwrup (s : State) (b : Byte) : (s.portWrite b).pwrup = s.pwrup := rfl
@[simp] theorem portWrite_numLines (s : State) (b : Byte) : (s.portWrite b).numLines = s.numLines := rfl
@[simp] theorem portWrite_numCols (s : State) (b : Byte) : (s.portWrite b).numCols = s.numCols := rfl
@[simp] theorem portWrite_configured (s : State) (b : Byte) : (s.portWrite b).configured = s.configured := rfl
@[simp] theorem portWrite_port (s : State) (b : Byte) : (s.portWrite b).port = b := rfl
@[simp] theorem portWrite_expansion (s : State) (b : Byte) : (s.portWrite b).expansion = s.expansion := rfl
@[simp] theorem portWrite_settle (s : State) (b : Byte) : (s.portWrite b).settle = s.settle := rfl
@[simp] theorem portWrite_verdict (s : State) (b : Byte) : (s.portWrite b).verdict = s.verdict := rfl
@[simp] theorem portWrite_rx (s : State) (b : Byte) : (s.portWrite b).rx = s.rx := rfl
@[simp] theorem portWrite_reqIn (s : State) (b : Byte) : (s.portWrite b).reqIn = s.reqIn := rfl
@[simp] theorem portWrite_answers (s : State) (b : Byte) : (s.portWrite b).answers = s.answers := rfl
@[simp] theorem portWrite_rst (s : State) (b : Byte) : (s.portWrite b).rst = s.rst := rfl
@[simp] theorem portWrite_env (s : State) (b : Byte) : (s.portWrite b).env = s.env.take s.cfg b := rfl
@[simp] theorem portWrite_trace (s : State) (b : Byte) : (s.portWrite b).trace = s.trace ++ [.write b] := rfl

@[simp] theorem portWriteFailed_cfg (s : State) (b : Byte) (reached latched : Bool) : (s.portWriteFailed b reached latched).cfg = s.cfg := rfl
@[simp] theorem portWriteFailed_w (s : State) (b : Byte) (reached latched : Bool) : (s.portWriteFailed b reached latched).w = s.w := rfl
@[simp] theorem portWriteFailed_rsl (s : State) (b : Byte) (reached latched : Bool) : (s.portWriteFailed b reached latched).rsl = s.rsl := rfl
@[simp] theorem portWriteFailed_ph (s : State) (b : Byte) (reached latched : Bool) : (s.portWriteFailed b reached latched).ph = s.ph := rfl
@[simp] theorem portWriteFailed_item (s : State) (b : Byte) (reached latched : Bool) : (s.portWriteFailed b reached latched).item = s.item := rfl
@[simp] theorem portWriteFailed_busy (s : State) (b : Byte) (reached latched : Bool) : (s.portWriteFailed b reached latched).busy = s.busy := rfl
@[simp] theorem portWriteFailed_status (s : State) (b : Byte) (reached latched : Bool) : (s.portWriteFailed b reached latched).status = s.status := rfl
@[simp] theorem portWriteFailed_fault (s : State) (b : Byte) (reached latched : Bool) : (s.portWriteFailed b reached latched).fault = s.fault := rfl
@[simp] theorem portWriteFailed_func (s : State) (b : Byte) (reached latched : Bool) : (s.portWriteFailed b reached latched).func = s.func := rfl
@[simp] theorem portWriteFailed_dctl (s : State) (b : Byte) (reached latched : Bool) : (s.portWriteFailed b reached latched).dctl = s.dctl := rfl
@[simp] theorem portWriteFailed_emode (s : State) (b : Byte) (reached latched : Bool) : (s.portWriteFailed b reached latched).emode = s.emode := rfl
@[simp] theorem portWriteFailed_dshift (s : State) (b : Byte) (reached latched : Bool) : (s.portWriteFailed b reached latched).dshift = s.dshift := rfl
@[simp] theorem portWriteFailed_bl (s : State) (b : Byte) (reached latched : Bool) : (s.portWriteFailed b reached latched).bl = s.bl := rfl
@[simp] theorem portWriteFailed_pwrup (s : State) (b : Byte) (reached latched : Bool) : (s.portWriteFailed b reached latched).pwrup = s.pwrup := rfl
@[simp] theorem portWriteFailed_numLines (s : State) (b : Byte) (reached latched : Bool) : (s.portWriteFailed b reached latched).numLines = s.numLines := rfl
@[simp] theorem portWriteFailed_numCols (s : State) (b : Byte) (reached latched : Bool) : (s.portWriteFailed b reached latched).numCols = s.numCols := rfl
@[simp] theorem portWriteFailed_configured (s : State) (b : Byte) (reached latched : Bool) : (s.portWriteFailed b reached latched).configured = s.configured := rfl
@[simp] theorem portWriteFailed_port (s : State) (b : Byte) (reached latched : Bool) : (s.portWriteFailed b reached latched).port = s.port := rfl
@[simp] theorem portWriteFailed_expansion (s : State) (b : Byte) (reached latched : Bool) : (s.portWriteFailed b reached latched).expansion = s.expansion := rfl
@[simp] theorem portWriteFailed_settle (s : State) (b : Byte) (reached latched : Bool) : (s.portWriteFailed b reached latched).settle = s.settle := rfl
@[simp] theorem portWriteFailed_verdict (s : State) (b : Byte) (reached latched : Bool) : (s.portWriteFailed b reached latched).verdict = s.verdict := rfl
@[simp] theorem portWriteFailed_rx (s : State) (b : Byte) (reached latched : Bool) : (s.portWriteFailed b reached latched).rx = s.rx := rfl
@[simp] theorem portWriteFailed_reqIn (s : State) (b : Byte) (reached latched : Bool) : (s.portWriteFailed b reached latched).reqIn = s.reqIn := rfl
@[simp] theorem portWriteFailed_answers (s : State) (b : Byte) (reached latched : Bool) : (s.portWriteFailed b reached latched).answers = s.answers := rfl
@[simp] theorem portWriteFailed_rst (s : State) (b : Byte) (reached latched : Bool) : (s.portWriteFailed b reached latched).rst = s.rst := rfl
@[simp] theorem portWriteFailed_env (s : State) (b : Byte) (reached latched : Bool) : (s.portWriteFailed b reached latched).env = s.env.takeFailed b reached latched := rfl
@[simp] theorem portWriteFailed_trace (s : State) (b : Byte) (reached latched : Bool) : (s.portWriteFailed b reached latched).trace = s.trace ++ [.writeFail b] := rfl

@[simp] theorem raise_cfg (s : State) (e : ErrorKind) : (s.raise e).cfg = s.cfg := rfl
@[simp] theorem raise_w (s : State) (e : ErrorKind) : (s.raise e).w = s.w := rfl
@[simp] theorem raise_rsl (s : State) (e : ErrorKind) : (s.raise e).rsl = s.rsl := rfl
@[simp] theorem raise_ph (s : State) (e : ErrorKind) : (s.raise e).ph = .idle := rfl
@[simp] theorem raise_item (s : State) (e : ErrorKind) : (s.raise e).item = 0 := rfl
@[simp] theorem raise_busy (s : State) (e : ErrorKind) : (s.raise e).busy = false := rfl
@[simp] theorem raise_status (s : State) (e : ErrorKind) : (s.raise e).status = e.status := rfl
@[simp] theorem raise_fault (s : State) (e : ErrorKind) : (s.raise e).fault = (s.fault || e.setsFault) := rfl
@[simp] theorem raise_func (s : State) (e : ErrorKind) : (s.raise e).func = s.func := rfl
@[simp] theorem raise_dctl (s : State) (e : ErrorKind) : (s.raise e).dctl = s.dctl := rfl
@[simp] theorem raise_emode (s : State) (e : ErrorKind) : (s.raise e).emode = s.emode := rfl
@[simp] theorem raise_dshift (s : State) (e : ErrorKind) : (s.raise e).dshift = s.dshift := rfl
@[simp] theorem raise_bl (s : State) (e : ErrorKind) : (s.raise e).bl = s.bl := rfl
@[simp] theorem raise_pwrup (s : State) (e : ErrorKind) : (s.raise e).pwrup = s.pwrup := rfl
@[simp] theorem raise_numLines (s : State) (e : ErrorKind) : (s.raise e).numLines = s.numLines := rfl
@[simp] theorem raise_numCols (s : State) (e : ErrorKind) : (s.raise e).numCols = s.numCols := rfl
@[simp] theorem raise_configured (s : State) (e : ErrorKind) : (s.raise e).configured = s.configured := rfl
@[simp] theorem raise_port (s : State) (e : ErrorKind) : (s.raise e).port = s.port := rfl
@[simp] theorem raise_expansion (s : State) (e : ErrorKind) : (s.raise e).expansion = [] := rfl
@[simp] theorem raise_settle (s : State) (e : ErrorKind) : (s.raise e).settle = 0 := rfl
@[simp] theorem raise_verdict (s : State) (e : ErrorKind) : (s.raise e).verdict = none := rfl
@[simp] theorem raise_rx (s : State) (e : ErrorKind) : (s.raise e).rx = s.rx := rfl
@[simp] theorem raise_reqIn (s : State) (e : ErrorKind) : (s.raise e).reqIn = s.reqIn := rfl
@[simp] theorem raise_answers (s : State) (e : ErrorKind) : (s.raise e).answers = s.answers := rfl
@[simp] theorem raise_rst (s : State) (e : ErrorKind) : (s.raise e).rst = s.rst := rfl
@[simp] theorem raise_env (s : State) (e : ErrorKind) : (s.raise e).env = s.env := rfl
@[simp] theorem raise_trace (s : State) (e : ErrorKind) : (s.raise e).trace = s.trace := rfl

@[simp] theorem succeed_cfg (s : State) : (s.succeed).cfg = s.cfg := rfl
@[simp] theorem succeed_w (s : State) : (s.succeed).w = s.w := rfl
@[simp] theorem succeed_rsl (s : State) : (s.succeed).rsl = s.rsl := rfl
@[simp] theorem succeed_ph (s : State) : (s.succeed).ph = .idle := rfl
@[simp] theorem succeed_item (s : State) : (s.succeed).item = 0 := rfl
@[simp] theorem succeed_busy (s : State) : (s.succeed).busy = false := rfl
@[simp] theorem succeed_status (s : State) : (s.succeed).status = .ok := rfl
@[simp] theorem succeed_fault (s : State) : (s.succeed).fault = s.fault := rfl
@[simp] theorem succeed_func (s : State) : (s.succeed).func = s.func := rfl
@[simp] theorem succeed_dctl (s : State) : (s.succeed).dctl = s.dctl := rfl
@[simp] theorem succeed_emode (s : State) : (s.succeed).emode = s.emode := rfl
@[simp] theorem succeed_dshift (s : State) : (s.succeed).dshift = s.dshift := rfl
@[simp] theorem succeed_bl (s : State) : (s.succeed).bl = s.bl := rfl
@[simp] theorem succeed_pwrup (s : State) : (s.succeed).pwrup = s.pwrup := rfl
@[simp] theorem succeed_numLines (s : State) : (s.succeed).numLines = s.numLines := rfl
@[simp] theorem succeed_numCols (s : State) : (s.succeed).numCols = s.numCols := rfl
@[simp] theorem succeed_configured (s : State) : (s.succeed).configured = s.configured := rfl
@[simp] theorem succeed_port (s : State) : (s.succeed).port = s.port := rfl
@[simp] theorem succeed_expansion (s : State) : (s.succeed).expansion = [] := rfl
@[simp] theorem succeed_settle (s : State) : (s.succeed).settle = 0 := rfl
@[simp] theorem succeed_verdict (s : State) : (s.succeed).verdict = none := rfl
@[simp] theorem succeed_rx (s : State) : (s.succeed).rx = s.rx := rfl
@[simp] theorem succeed_reqIn (s : State) : (s.succeed).reqIn = s.reqIn := rfl
@[simp] theorem succeed_answers (s : State) : (s.succeed).answers = s.answers := rfl
@[simp] theorem succeed_rst (s : State) : (s.succeed).rst = s.rst := rfl
@[simp] theorem succeed_env (s : State) : (s.succeed).env = s.env := rfl
@[simp] theorem succeed_trace (s : State) : (s.succeed).trace = s.trace := rfl

@[simp] theorem launch_cfg (s : State) (items : List Item) : (s.launch items).cfg = s.cfg := rfl
@[simp] theorem launch_w (s : State) (items : List Item) : (s.launch items).w = s.w := rfl
@[simp] theorem launch_rsl (s : State) (items : List Item) : (s.launch items).rsl = s.rsl := rfl
@[simp] theorem launch_ph (s : State) (items : List Item) : (s.launch items).ph = .idle := rfl
@[simp] theorem launch_item (s : State) (items : List Item) : (s.launch items).item = 0 := rfl
@[simp] theorem launch_busy (s : State) (items : List Item) : (s.launch items).busy = true := rfl
@[simp] theorem launch_status (s : State) (items : List Item) : (s.launch items).status = s.status := rfl
@[simp] theorem launch_fault (s : State) (items : List Item) : (s.launch items).fault = s.fault := rfl
@[simp] theorem launch_func (s : State) (items : List Item) : (s.launch items).func = s.func := rfl
@[simp] theorem launch_dctl (s : State) (items : List Item) : (s.launch items).dctl = s.dctl := rfl
@[simp] theorem launch_emode (s : State) (items : List Item) : (s.launch items).emode = s.emode := rfl
@[simp] theorem launch_dshift (s : State) (items : List Item) : (s.launch items).dshift = s.dshift := rfl
@[simp] theorem launch_bl (s : State) (items : List Item) : (s.launch items).bl = s.bl := rfl
@[simp] theorem launch_pwrup (s : State) (items : List Item) : (s.launch items).pwrup = s.pwrup := rfl
@[simp] theorem launch_numLines (s : State) (items : List Item) : (s.launch items).numLines = s.numLines := rfl
@[simp] theorem launch_numCols (s : State) (items : List Item) : (s.launch items).numCols = s.numCols := rfl
@[simp] theorem launch_configured (s : State) (items : List Item) : (s.launch items).configured = s.configured := rfl
@[simp] theorem launch_port (s : State) (items : List Item) : (s.launch items).port = s.port := rfl
@[simp] theorem launch_expansion (s : State) (items : List Item) : (s.launch items).expansion = items := rfl
@[simp] theorem launch_settle (s : State) (items : List Item) : (s.launch items).settle = 0 := rfl
@[simp] theorem launch_verdict (s : State) (items : List Item) : (s.launch items).verdict = none := rfl
@[simp] theorem launch_rx (s : State) (items : List Item) : (s.launch items).rx = s.rx := rfl
@[simp] theorem launch_reqIn (s : State) (items : List Item) : (s.launch items).reqIn = s.reqIn := rfl
@[simp] theorem launch_answers (s : State) (items : List Item) : (s.launch items).answers = s.answers := rfl
@[simp] theorem launch_rst (s : State) (items : List Item) : (s.launch items).rst = s.rst := rfl
@[simp] theorem launch_env (s : State) (items : List Item) : (s.launch items).env = s.env := rfl
@[simp] theorem launch_trace (s : State) (items : List Item) : (s.launch items).trace = s.trace := rfl

@[simp] theorem reject_cfg (s : State) (e : ErrorKind) : (s.reject e).cfg = s.cfg := rfl
@[simp] theorem reject_w (s : State) (e : ErrorKind) : (s.reject e).w = s.w := rfl
@[simp] theorem reject_rsl (s : State) (e : ErrorKind) : (s.reject e).rsl = s.rsl := rfl
@[simp] theorem reject_ph (s : State) (e : ErrorKind) : (s.reject e).ph = .idle := rfl
@[simp] theorem reject_item (s : State) (e : ErrorKind) : (s.reject e).item = 0 := rfl
@[simp] theorem reject_busy (s : State) (e : ErrorKind) : (s.reject e).busy = true := rfl
@[simp] theorem reject_status (s : State) (e : ErrorKind) : (s.reject e).status = s.status := rfl
@[simp] theorem reject_fault (s : State) (e : ErrorKind) : (s.reject e).fault = s.fault := rfl
@[simp] theorem reject_func (s : State) (e : ErrorKind) : (s.reject e).func = s.func := rfl
@[simp] theorem reject_dctl (s : State) (e : ErrorKind) : (s.reject e).dctl = s.dctl := rfl
@[simp] theorem reject_emode (s : State) (e : ErrorKind) : (s.reject e).emode = s.emode := rfl
@[simp] theorem reject_dshift (s : State) (e : ErrorKind) : (s.reject e).dshift = s.dshift := rfl
@[simp] theorem reject_bl (s : State) (e : ErrorKind) : (s.reject e).bl = s.bl := rfl
@[simp] theorem reject_pwrup (s : State) (e : ErrorKind) : (s.reject e).pwrup = s.pwrup := rfl
@[simp] theorem reject_numLines (s : State) (e : ErrorKind) : (s.reject e).numLines = s.numLines := rfl
@[simp] theorem reject_numCols (s : State) (e : ErrorKind) : (s.reject e).numCols = s.numCols := rfl
@[simp] theorem reject_configured (s : State) (e : ErrorKind) : (s.reject e).configured = s.configured := rfl
@[simp] theorem reject_port (s : State) (e : ErrorKind) : (s.reject e).port = s.port := rfl
@[simp] theorem reject_expansion (s : State) (e : ErrorKind) : (s.reject e).expansion = [] := rfl
@[simp] theorem reject_settle (s : State) (e : ErrorKind) : (s.reject e).settle = 0 := rfl
@[simp] theorem reject_verdict (s : State) (e : ErrorKind) : (s.reject e).verdict = some e := rfl
@[simp] theorem reject_rx (s : State) (e : ErrorKind) : (s.reject e).rx = s.rx := rfl
@[simp] theorem reject_reqIn (s : State) (e : ErrorKind) : (s.reject e).reqIn = s.reqIn := rfl
@[simp] theorem reject_answers (s : State) (e : ErrorKind) : (s.reject e).answers = s.answers := rfl
@[simp] theorem reject_rst (s : State) (e : ErrorKind) : (s.reject e).rst = s.rst := rfl
@[simp] theorem reject_env (s : State) (e : ErrorKind) : (s.reject e).env = s.env := rfl
@[simp] theorem reject_trace (s : State) (e : ErrorKind) : (s.reject e).trace = s.trace := rfl

@[simp] theorem nextItem_cfg (s : State) : (s.nextItem).cfg = s.cfg := rfl
@[simp] theorem nextItem_w (s : State) : (s.nextItem).w = s.w := rfl
@[simp] theorem nextItem_rsl (s : State) : (s.nextItem).rsl = s.rsl := rfl
@[simp] theorem nextItem_ph (s : State) : (s.nextItem).ph = .idle := rfl
@[simp] theorem nextItem_item (s : State) : (s.nextItem).item = s.item + 1 := rfl
@[simp] theorem nextItem_busy (s : State) : (s.nextItem).busy = s.busy := rfl
@[simp] theorem nextItem_status (s : State) : (s.nextItem).status = s.status := rfl
@[simp] theorem nextItem_fault (s : State) : (s.nextItem).fault = s.fault := rfl
@[simp] theorem nextItem_func (s : State) : (s.nextItem).func = s.func := rfl
@[simp] theorem nextItem_dctl (s : State) : (s.nextItem).dctl = s.dctl := rfl
@[simp] theorem nextItem_emode (s : State) : (s.nextItem).emode = s.emode := rfl
@[simp] theorem nextItem_dshift (s : State) : (s.nextItem).dshift = s.dshift := rfl
@[simp] theorem nextItem_bl (s : State) : (s.nextItem).bl = s.bl := rfl
@[simp] theorem nextItem_pwrup (s : State) : (s.nextItem).pwrup = s.pwrup := rfl
@[simp] theorem nextItem_numLines (s : State) : (s.nextItem).numLines = s.numLines := rfl
@[simp] theorem nextItem_numCols (s : State) : (s.nextItem).numCols = s.numCols := rfl
@[simp] theorem nextItem_configured (s : State) : (s.nextItem).configured = s.configured := rfl
@[simp] theorem nextItem_port (s : State) : (s.nextItem).port = s.port := rfl
@[simp] theorem nextItem_expansion (s : State) : (s.nextItem).expansion = s.expansion := rfl
@[simp] theorem nextItem_settle (s : State) : (s.nextItem).settle = 0 := rfl
@[simp] theorem nextItem_verdict (s : State) : (s.nextItem).verdict = s.verdict := rfl
@[simp] theorem nextItem_rx (s : State) : (s.nextItem).rx = s.rx := rfl
@[simp] theorem nextItem_reqIn (s : State) : (s.nextItem).reqIn = s.reqIn := rfl
@[simp] theorem nextItem_answers (s : State) : (s.nextItem).answers = s.answers := rfl
@[simp] theorem nextItem_rst (s : State) : (s.nextItem).rst = s.rst := rfl
@[simp] theorem nextItem_env (s : State) : (s.nextItem).env = s.owed := rfl
@[simp] theorem nextItem_trace (s : State) : (s.nextItem).trace = s.trace := rfl

@[simp] theorem nextPhase_cfg (s : State) (ph : Phase) : (s.nextPhase ph).cfg = s.cfg := rfl
@[simp] theorem nextPhase_w (s : State) (ph : Phase) : (s.nextPhase ph).w = s.w := rfl
@[simp] theorem nextPhase_rsl (s : State) (ph : Phase) : (s.nextPhase ph).rsl = s.rsl := rfl
@[simp] theorem nextPhase_ph (s : State) (ph : Phase) : (s.nextPhase ph).ph = ph := rfl
@[simp] theorem nextPhase_item (s : State) (ph : Phase) : (s.nextPhase ph).item = s.item := rfl
@[simp] theorem nextPhase_busy (s : State) (ph : Phase) : (s.nextPhase ph).busy = s.busy := rfl
@[simp] theorem nextPhase_status (s : State) (ph : Phase) : (s.nextPhase ph).status = s.status := rfl
@[simp] theorem nextPhase_fault (s : State) (ph : Phase) : (s.nextPhase ph).fault = s.fault := rfl
@[simp] theorem nextPhase_func (s : State) (ph : Phase) : (s.nextPhase ph).func = s.func := rfl
@[simp] theorem nextPhase_dctl (s : State) (ph : Phase) : (s.nextPhase ph).dctl = s.dctl := rfl
@[simp] theorem nextPhase_emode (s : State) (ph : Phase) : (s.nextPhase ph).emode = s.emode := rfl
@[simp] theorem nextPhase_dshift (s : State) (ph : Phase) : (s.nextPhase ph).dshift = s.dshift := rfl
@[simp] theorem nextPhase_bl (s : State) (ph : Phase) : (s.nextPhase ph).bl = s.bl := rfl
@[simp] theorem nextPhase_pwrup (s : State) (ph : Phase) : (s.nextPhase ph).pwrup = s.pwrup := rfl
@[simp] theorem nextPhase_numLines (s : State) (ph : Phase) : (s.nextPhase ph).numLines = s.numLines := rfl
@[simp] theorem nextPhase_numCols (s : State) (ph : Phase) : (s.nextPhase ph).numCols = s.numCols := rfl
@[simp] theorem nextPhase_configured (s : State) (ph : Phase) : (s.nextPhase ph).configured = s.configured := rfl
@[simp] theorem nextPhase_port (s : State) (ph : Phase) : (s.nextPhase ph).port = s.port := rfl
@[simp] theorem nextPhase_expansion (s : State) (ph : Phase) : (s.nextPhase ph).expansion = s.expansion := rfl
@[simp] theorem nextPhase_settle (s : State) (ph : Phase) : (s.nextPhase ph).settle = settleBefore s.cfg ph := rfl
@[simp] theorem nextPhase_verdict (s : State) (ph : Phase) : (s.nextPhase ph).verdict = s.verdict := rfl
@[simp] theorem nextPhase_rx (s : State) (ph : Phase) : (s.nextPhase ph).rx = s.rx := rfl
@[simp] theorem nextPhase_reqIn (s : State) (ph : Phase) : (s.nextPhase ph).reqIn = s.reqIn := rfl
@[simp] theorem nextPhase_answers (s : State) (ph : Phase) : (s.nextPhase ph).answers = s.answers := rfl
@[simp] theorem nextPhase_rst (s : State) (ph : Phase) : (s.nextPhase ph).rst = s.rst := rfl
@[simp] theorem nextPhase_env (s : State) (ph : Phase) : (s.nextPhase ph).env = s.env := rfl
@[simp] theorem nextPhase_trace (s : State) (ph : Phase) : (s.nextPhase ph).trace = s.trace := rfl

@[simp] theorem applyReset_cfg (s : State) (r : ResetInput) : (s.applyReset r).cfg = s.cfg := rfl
@[simp] theorem applyReset_w (s : State) (r : ResetInput) : (s.applyReset r).w = r.wDraw := rfl
@[simp] theorem applyReset_rsl (s : State) (r : ResetInput) : (s.applyReset r).rsl = r.rslDraw := rfl
@[simp] theorem applyReset_ph (s : State) (r : ResetInput) : (s.applyReset r).ph = .idle := rfl
@[simp] theorem applyReset_item (s : State) (r : ResetInput) : (s.applyReset r).item = 0 := rfl
@[simp] theorem applyReset_busy (s : State) (r : ResetInput) : (s.applyReset r).busy = false := rfl
@[simp] theorem applyReset_status (s : State) (r : ResetInput) : (s.applyReset r).status = .ok := rfl
@[simp] theorem applyReset_fault (s : State) (r : ResetInput) : (s.applyReset r).fault = false := rfl
@[simp] theorem applyReset_func (s : State) (r : ResetInput) : (s.applyReset r).func = s.cfg.funcReset := rfl
@[simp] theorem applyReset_dctl (s : State) (r : ResetInput) : (s.applyReset r).dctl = s.cfg.dctlReset := rfl
@[simp] theorem applyReset_emode (s : State) (r : ResetInput) : (s.applyReset r).emode = s.cfg.emodeReset := rfl
@[simp] theorem applyReset_dshift (s : State) (r : ResetInput) : (s.applyReset r).dshift = s.cfg.dshiftReset := rfl
@[simp] theorem applyReset_bl (s : State) (r : ResetInput) : (s.applyReset r).bl = r.backlight := rfl
@[simp] theorem applyReset_pwrup (s : State) (r : ResetInput) : (s.applyReset r).pwrup = r.pwrup := rfl
@[simp] theorem applyReset_numLines (s : State) (r : ResetInput) : (s.applyReset r).numLines = 0#3 := rfl
@[simp] theorem applyReset_numCols (s : State) (r : ResetInput) : (s.applyReset r).numCols = 0#8 := rfl
@[simp] theorem applyReset_configured (s : State) (r : ResetInput) : (s.applyReset r).configured = false := rfl
@[simp] theorem applyReset_port (s : State) (r : ResetInput) : (s.applyReset r).port = r.portDraw := rfl
@[simp] theorem applyReset_expansion (s : State) (r : ResetInput) : (s.applyReset r).expansion = [] := rfl
@[simp] theorem applyReset_settle (s : State) (r : ResetInput) : (s.applyReset r).settle = 0 := rfl
@[simp] theorem applyReset_verdict (s : State) (r : ResetInput) : (s.applyReset r).verdict = none := rfl
@[simp] theorem applyReset_rx (s : State) (r : ResetInput) : (s.applyReset r).rx = [] := rfl
@[simp] theorem applyReset_reqIn (s : State) (r : ResetInput) : (s.applyReset r).reqIn = s.reqIn := rfl
@[simp] theorem applyReset_answers (s : State) (r : ResetInput) : (s.applyReset r).answers = s.answers := rfl
@[simp] theorem applyReset_rst (s : State) (r : ResetInput) : (s.applyReset r).rst = none := rfl
@[simp] theorem applyReset_env (s : State) (r : ResetInput) : (s.applyReset r).env = s.env := rfl
@[simp] theorem applyReset_trace (s : State) (r : ResetInput) : (s.applyReset r).trace = s.trace := rfl

/-! A wait touches the trace and the environment only. -/

@[simp] theorem delay_cfg (s : State) (t : Nat) : (s.delay t).cfg = s.cfg := by unfold State.delay; split <;> rfl
@[simp] theorem delay_w (s : State) (t : Nat) : (s.delay t).w = s.w := by unfold State.delay; split <;> rfl
@[simp] theorem delay_rsl (s : State) (t : Nat) : (s.delay t).rsl = s.rsl := by unfold State.delay; split <;> rfl
@[simp] theorem delay_ph (s : State) (t : Nat) : (s.delay t).ph = s.ph := by unfold State.delay; split <;> rfl
@[simp] theorem delay_item (s : State) (t : Nat) : (s.delay t).item = s.item := by unfold State.delay; split <;> rfl
@[simp] theorem delay_busy (s : State) (t : Nat) : (s.delay t).busy = s.busy := by unfold State.delay; split <;> rfl
@[simp] theorem delay_status (s : State) (t : Nat) : (s.delay t).status = s.status := by unfold State.delay; split <;> rfl
@[simp] theorem delay_fault (s : State) (t : Nat) : (s.delay t).fault = s.fault := by unfold State.delay; split <;> rfl
@[simp] theorem delay_func (s : State) (t : Nat) : (s.delay t).func = s.func := by unfold State.delay; split <;> rfl
@[simp] theorem delay_dctl (s : State) (t : Nat) : (s.delay t).dctl = s.dctl := by unfold State.delay; split <;> rfl
@[simp] theorem delay_emode (s : State) (t : Nat) : (s.delay t).emode = s.emode := by unfold State.delay; split <;> rfl
@[simp] theorem delay_dshift (s : State) (t : Nat) : (s.delay t).dshift = s.dshift := by unfold State.delay; split <;> rfl
@[simp] theorem delay_bl (s : State) (t : Nat) : (s.delay t).bl = s.bl := by unfold State.delay; split <;> rfl
@[simp] theorem delay_pwrup (s : State) (t : Nat) : (s.delay t).pwrup = s.pwrup := by unfold State.delay; split <;> rfl
@[simp] theorem delay_numLines (s : State) (t : Nat) : (s.delay t).numLines = s.numLines := by unfold State.delay; split <;> rfl
@[simp] theorem delay_numCols (s : State) (t : Nat) : (s.delay t).numCols = s.numCols := by unfold State.delay; split <;> rfl
@[simp] theorem delay_configured (s : State) (t : Nat) : (s.delay t).configured = s.configured := by unfold State.delay; split <;> rfl
@[simp] theorem delay_port (s : State) (t : Nat) : (s.delay t).port = s.port := by unfold State.delay; split <;> rfl
@[simp] theorem delay_expansion (s : State) (t : Nat) : (s.delay t).expansion = s.expansion := by unfold State.delay; split <;> rfl
@[simp] theorem delay_settle (s : State) (t : Nat) : (s.delay t).settle = s.settle := by unfold State.delay; split <;> rfl
@[simp] theorem delay_verdict (s : State) (t : Nat) : (s.delay t).verdict = s.verdict := by unfold State.delay; split <;> rfl
@[simp] theorem delay_rx (s : State) (t : Nat) : (s.delay t).rx = s.rx := by unfold State.delay; split <;> rfl
@[simp] theorem delay_reqIn (s : State) (t : Nat) : (s.delay t).reqIn = s.reqIn := by unfold State.delay; split <;> rfl
@[simp] theorem delay_answers (s : State) (t : Nat) : (s.delay t).answers = s.answers := by unfold State.delay; split <;> rfl
@[simp] theorem delay_rst (s : State) (t : Nat) : (s.delay t).rst = s.rst := by unfold State.delay; split <;> rfl

end Sys2Proof.Machine
end

