-- ==== Sys2Proof/Laws/Ops.lean ====
section
/-! SUPPORT. What the shared operations do, each said once. -/

namespace Sys2Proof.Machine

/-- R88: `Delay(0)` is no event. -/
@[simp] theorem delay_zero (s : State) : s.delay 0 = s := rfl

/-- R88: any other delay is one event. -/
theorem delay_pos (s : State) {t : Nat} (h : t ≠ 0) :
    s.delay t = { s.emit (.delay t) with env := s.env.wait t } := by simp [State.delay, h]

/-- R5, R139: the completion of a request turned away reports its error. -/
theorem complete_rejected {s : State} {e : ErrorKind} (h : s.verdict = some e) : s.complete = s.raise e := by
  simp only [State.complete, h]

/-- R175: any other completion is one with `STATUS = 0`. -/
theorem complete_running {s : State} (h : s.verdict = none) : s.complete = s.succeed := by
  simp only [State.complete, h]

/-- R5, R83: everything the next event of a started item can be: a wait, or the port write. -/
theorem phaseEvent_cases (s : State) :
    (s.settle = 0 ∧ s.phaseEvent = s.phaseWrite) ∨
      (s.settle ≠ 0 ∧
        s.phaseEvent = { s.emit (.delay s.settle) with env := s.env.wait s.settle, settle := 0 }) := by
  unfold State.phaseEvent State.settleWait
  split
  · exact .inl ⟨‹_›, rfl⟩
  · exact .inr ⟨‹_›, by rw [delay_pos s ‹_›]⟩

/-- R80: a word transfer starts with its operands in the latches and no wait. -/
theorem beginXfer_eq (s : State) (rs : Bool) (w : Byte) :
    s.beginXfer rs w = ({ s with w := w, rsl := rs, ph := .hiData, settle := 0 } : State).phaseWrite := rfl

/-- R73: an operation that nothing turns away runs. -/
theorem whenReady_ready {s : State} (h : Ready s) (k : Result) : whenReady s k = k := by
  simp [whenReady, whenNoFault, h.noFault, h.configured]

/-- R73: what an operation under the two checks can answer. -/
theorem whenReady_cases {s t : State} {k : Result} (h : whenReady s k = .next t) :
    (s.fault = true ∧ t = s.reject .transport) ∨
      (s.fault = false ∧ s.configured = false ∧ t = s.reject .request) ∨
      (s.fault = false ∧ s.configured = true ∧ k = .next t) := by
  unfold whenReady whenNoFault at h
  cases hf : s.fault <;> cases hc : s.configured <;> simp_all

/-- R17, R40, R89: everything a port write can do: wait, succeed and advance, or fail and end the operation. -/
theorem phaseWrite_cases (s : State) :
    (s.answers = [] ∧ s.phaseWrite = s) ∨
    (∃ rest, s.answers = .ok :: rest ∧
      s.phaseWrite = (({ s with answers := rest } : State).portWrite s.phaseByte).advance) ∨
    (∃ reached latched rest, s.answers = .error reached latched :: rest ∧
      s.phaseWrite = ({ s with answers := rest } : State).failWrite reached latched) := by
  unfold State.phaseWrite
  rcases h : s.answers with _ | ⟨_ | ⟨r, l⟩, rest⟩
  · exact .inl ⟨rfl, rfl⟩
  · exact .inr (.inl ⟨rest, rfl, rfl⟩)
  · exact .inr (.inr ⟨r, l, rest, rfl, rfl⟩)

/-- R89, R139: a failed write is the error entry after the failed event; it differs from a plain `raise` in the
environment only. -/
theorem failWrite_eq (s : State) (reached latched : Bool) :
    ∃ env, s.failWrite reached latched =
      ({ s.portWriteFailed s.phaseByte reached latched with env := env } : State).raise .transport := ⟨_, rfl⟩

/-- R34(a): the wait owed is not the expander's affair. -/
@[simp] theorem owe_expLatch (p : Params) (e : Env) (it : Item) : (e.owe p it).expLatch = e.expLatch := by
  cases it <;> rfl

@[simp] theorem owed_expLatch (s : State) : s.owed.expLatch = s.env.expLatch := by
  unfold State.owed
  split
  · exact owe_expLatch _ _ _
  · rfl

/-- R17: advancing the phase writes nothing. -/
theorem advance_writes_nothing (s : State) :
    s.advance.trace = s.trace ∧ s.advance.port = s.port ∧ s.advance.env.expLatch = s.env.expLatch := by
  unfold State.advance
  split <;> (try split) <;> simp [State.nextPhase, State.nextItem]

/-- R34(a), R40, U2: the expander's byte after a failed write. -/
theorem failWrite_expLatch (s : State) (reached latched : Bool) :
    (s.failWrite reached latched).env.expLatch = if reached then s.phaseByte else s.env.expLatch := by
  have h : (s.failWrite reached latched).env.expLatch = (s.env.takeFailed s.phaseByte reached latched).expLatch := by
    unfold State.failWrite
    extract_lets t
    show (if _ then _ else _ : Env).expLatch = _
    split
    · exact owed_expLatch t
    · rfl
  rw [h]
  rfl

/-- The bits a row of R59's table fixes and leaves, put together again, are the word. -/
theorem transferWord_bits :
    ∀ w : Byte,
      (w.extractLsb' 7 1 = 1#1 → 0b1#1 ++ w.extractLsb' 0 7 = w) ∧
      (w.extractLsb' 4 4 = 0b0010#4 ∧ w.extractLsb' 0 2 = 0b00#2 →
        0b0010#4 ++ w.extractLsb' 3 1 ++ w.extractLsb' 2 1 ++ 0b00#2 = w) ∧
      (w.extractLsb' 3 5 = 0b00011#5 ∧ w.extractLsb' 0 2 = 0b00#2 →
        0b00011#5 ++ w.extractLsb' 2 1 ++ 0b00#2 = w) ∧
      (w.extractLsb' 3 5 = 0b00001#5 →
        0b00001#5 ++ w.extractLsb' 2 1 ++ w.extractLsb' 1 1 ++ w.extractLsb' 0 1 = w) ∧
      (w.extractLsb' 2 6 = 0b000001#6 → 0b000001#6 ++ w.extractLsb' 1 1 ++ w.extractLsb' 0 1 = w) := by
  decide

/-- R54, R69: a word of R59's table, started as the instruction of its row, is sent as it is. -/
theorem exec_transferWord {tw : BitVec 9} {i : Instr} (h : decodeTransferWord tw = some i) (s : State) :
    exec i s = .next (s.beginXfer (tw.extractLsb' 8 1 == 1#1) (tw.extractLsb' 0 8)) := by
  obtain ⟨h1, h2, h3, h4, h5⟩ := transferWord_bits (tw.extractLsb' 0 8)
  unfold decodeTransferWord at h
  extract_lets w at h
  by_cases c0 : tw.extractLsb' 8 1 = 1#1
  · rw [if_pos c0] at h
    obtain rfl := Option.some.inj h
    simp [exec, execTwData, c0, w]
  rw [if_neg c0] at h
  have hb : (tw.extractLsb' 8 1 == 1#1) = false := beq_false_of_ne c0
  rw [hb]
  split at h
  · obtain rfl := Option.some.inj h
    exact congrArg (fun v => Host.Outcome.next (s.beginXfer false v)) (h1 ‹_›)
  split at h
  · obtain rfl := Option.some.inj h
    exact congrArg (fun v => Host.Outcome.next (s.beginXfer false v)) (h2 ‹_›)
  split at h
  · obtain rfl := Option.some.inj h
    exact congrArg (fun v => Host.Outcome.next (s.beginXfer false v)) (h3 ‹_›)
  split at h
  · obtain rfl := Option.some.inj h
    exact congrArg (fun v => Host.Outcome.next (s.beginXfer false v)) (h4 ‹_›)
  split at h
  · obtain rfl := Option.some.inj h
    exact congrArg (fun v => Host.Outcome.next (s.beginXfer false v)) (h5 ‹_›)
  split at h
  · obtain rfl := Option.some.inj h
    exact congrArg (fun v => Host.Outcome.next (s.beginXfer false v)) (Eq.symm ‹_›)
  split at h
  · obtain rfl := Option.some.inj h
    exact congrArg (fun v => Host.Outcome.next (s.beginXfer false v)) (Eq.symm ‹_›)
  · simp at h

/-- The two parts of a TransferWord `{RS, W}`. -/
theorem transferWord_parts (rs : Bool) (w : Byte) :
    ((BitVec.ofBool rs ++ w).extractLsb' 8 1 == 1#1) = rs ∧ (BitVec.ofBool rs ++ w).extractLsb' 0 8 = w := by
  revert w
  cases rs <;> decide

/-- R80: starting a word transfer, whether or not its word is in R59's table, latches and issues the first write. -/
theorem startWord_eq (rs : Bool) (w : Byte) (s : State) : startWord rs w s = .next (s.beginXfer rs w) := by
  unfold startWord
  split
  · rename_i i h
    rw [exec_transferWord h]
    obtain ⟨h1, h2⟩ := transferWord_parts rs w
    exact congrArg Host.Outcome.next (congrArg₂ (State.beginXfer s) h1 h2)
  · rfl

end Sys2Proof.Machine
end

