-- ==== Sys2Proof/Laws/Exec.lean ====
section
/-! SUPPORT. What accepting a request can do, said once for all 21 operations: the provers cite `exec_request` and
unfold no meaning. -/

namespace Sys2Proof.Machine

/-- The toggles of `DCTL` (R103 to R108). -/
abbrev displayToggles : List Instr := [.display, .noDisplay, .cursor, .noCursor, .blink, .noBlink]

/-- The toggles of `EMODE` (R109 to R112). -/
abbrev entryToggles : List Instr := [.ltr, .rtl, .autoscroll, .noAutoscroll]

/-- An accepted request's registers and expansion: BEGIN (R119), INIT (R121), a toggle (R102), or an operation that
writes no register and sends no raw nibble (R118). -/
def Accepted (i : Instr) (s s' : State) (items : List Item) : Prop :=
  (∃ c l, i = .begin c l ∧ beginInvalid c l s = false ∧ items = [] ∧
    s' = { s with numCols := c, numLines := l.setWidth 3, func := functionForLines s.cfg s.func l, configured := true }) ∨
  (s.configured = true ∧ i = .init ∧ s' = { s with pwrup := false } ∧ items = initItems s) ∨
  (s.configured = true ∧ i ∈ displayToggles ∧ (∃ w, items = wordItems s.cfg false w) ∧
    ∃ f ∈ [s.cfg.displayOn, s.cfg.cursorOn, s.cfg.blinkOn],
      s' = { s with dctl := s.dctl ||| f } ∨ s' = { s with dctl := s.dctl &&& ~~~f }) ∨
  (s.configured = true ∧ i ∈ entryToggles ∧ (∃ w, items = wordItems s.cfg false w) ∧
    ∃ f ∈ [s.cfg.entryLeft, s.cfg.shiftIncrement],
      s' = { s with emode := s.emode ||| f } ∨ s' = { s with emode := s.emode &&& ~~~f }) ∨
  (s.configured = true ∧ s' = s ∧ (∀ c l, i ≠ .begin c l) ∧ i ≠ .init ∧ noRaw items = true)

/-- R11: a word's items, with what follows them, have no raw nibble that the rest has not. -/
@[simp] theorem noRaw_wordItems (p : Params) (rs : Bool) (w : Byte) (items : List Item) :
    noRaw (wordItems p rs w ++ items) = noRaw items := by
  unfold wordItems delayItems
  split <;> rfl

theorem wordItems_noRaw (p : Params) (rs : Bool) (w : Byte) : noRaw (wordItems p rs w) = true := by
  simpa [noRaw] using noRaw_wordItems p rs w []

theorem textItems_noRaw (p : Params) (l : Line) (text : List Byte) : noRaw (textItems p l text) = true := by
  induction text generalizing l with
  | nil => rfl
  | cons c text ih => simp only [textItems]; split <;> simpa using ih _

theorem stringItems_noRaw (p : Params) (text : List Byte) : noRaw (stringItems p text) = true := by
  induction text with
  | nil => rfl
  | cons c text ih => simpa [stringItems] using ih

/-- R129: the expansion of PUTSTRING, as a map. -/
theorem stringItems_eq (p : Params) (text : List Byte) : stringItems p text = text.flatMap (wordItems p true) := by
  induction text with
  | nil => rfl
  | cons c text ih => simp [stringItems, ih]

/-- R139: a request turned away at acceptance reports TransportError exactly under the sticky fault (R144). -/
theorem whenReady_answers {s t : State} {k : Result} (h : whenReady s k = .next t) :
    (∃ e, t = s.reject e ∧ (e = .transport ↔ s.fault = true)) ∨
      (s.fault = false ∧ s.configured = true ∧ k = .next t) := by
  rcases whenReady_cases h with ⟨a, b⟩ | ⟨a, -, c⟩ | h
  · exact .inl ⟨_, b, by simp [a]⟩
  · exact .inl ⟨_, c, by simp [a]⟩
  · exact .inr h

/-- R119, R120, R144: everything BEGIN can do. -/
theorem execBegin_cases {c l : Byte} {s t : State} (h : execBegin c l s = .next t) :
    (∃ e, t = s.reject e ∧ (e = .transport ↔ s.fault = true)) ∨
      (s.fault = false ∧ ∃ s' items, t = s'.launch items ∧ Accepted (.begin c l) s s' items) := by
  simp only [execBegin, whenNoFault] at h
  split at h
  · cases h; exact .inl ⟨_, rfl, by simp [*]⟩
  · rename_i hf
    have hf : s.fault = false := by simpa using hf
    split at h
    · cases h; exact .inl ⟨_, rfl, by simp [hf]⟩
    · rename_i hb
      cases h
      exact .inr ⟨hf, _, _, rfl, .inl ⟨c, l, rfl, by simpa using hb, rfl, rfl⟩⟩

/-- Everything the acceptance of a request can do when it answers a next state: a request turned away
(R73), or the launch of an
accepted operation's expansion (R79). -/
theorem exec_request {i : Instr} (hi : i.isRequest = true) {s t : State} (h : exec i s = .next t) :
    (∃ e, t = s.reject e ∧ (e = .transport ↔ s.fault = true)) ∨
      (s.fault = false ∧ ∃ s' items, t = s'.launch items ∧ Accepted i s s' items) := by
  have dctl : ∀ (k : Instr) (f v w : Byte), k ∈ displayToggles →
      f ∈ [s.cfg.displayOn, s.cfg.cursorOn, s.cfg.blinkOn] → (v = s.dctl ||| f ∨ v = s.dctl &&& ~~~f) →
      s.configured = true → Accepted k s { s with dctl := v } (wordItems s.cfg false w) := by
    rintro k f v w hk hf hv hc
    exact .inr (.inr (.inl ⟨hc, hk, ⟨w, rfl⟩, f, hf, hv.imp (fun e => by rw [e]) (fun e => by rw [e])⟩))
  have emode : ∀ (k : Instr) (f v w : Byte), k ∈ entryToggles →
      f ∈ [s.cfg.entryLeft, s.cfg.shiftIncrement] → (v = s.emode ||| f ∨ v = s.emode &&& ~~~f) →
      s.configured = true → Accepted k s { s with emode := v } (wordItems s.cfg false w) := by
    rintro k f v w hk hf hv hc
    exact .inr (.inr (.inr (.inl ⟨hc, hk, ⟨w, rfl⟩, f, hf, hv.imp (fun e => by rw [e]) (fun e => by rw [e])⟩)))
  have plain : ∀ (k : Instr) (items : List Item), s.configured = true → (∀ c l, k ≠ .begin c l) → k ≠ .init →
      noRaw items = true → Accepted k s s items :=
    fun k items hc hb hn hr => .inr (.inr (.inr (.inr ⟨hc, rfl, hb, hn, hr⟩)))
  cases i <;> simp only [Instr.isRequest, reduceCtorEq] at hi
  · exact execBegin_cases h
  all_goals rcases whenReady_answers h with h | ⟨hf, hc, hk⟩
  all_goals first | exact .inl h | skip
  case init => cases hk; exact .inr ⟨hf, _, _, rfl, .inr (.inl ⟨hc, rfl, rfl, rfl⟩)⟩
  case display => cases hk; exact .inr ⟨hf, _, _, rfl, dctl _ s.cfg.displayOn _ _ (by simp) (by simp) (.inl rfl) hc⟩
  case noDisplay => cases hk; exact .inr ⟨hf, _, _, rfl, dctl _ s.cfg.displayOn _ _ (by simp) (by simp) (.inr rfl) hc⟩
  case cursor => cases hk; exact .inr ⟨hf, _, _, rfl, dctl _ s.cfg.cursorOn _ _ (by simp) (by simp) (.inl rfl) hc⟩
  case noCursor => cases hk; exact .inr ⟨hf, _, _, rfl, dctl _ s.cfg.cursorOn _ _ (by simp) (by simp) (.inr rfl) hc⟩
  case blink => cases hk; exact .inr ⟨hf, _, _, rfl, dctl _ s.cfg.blinkOn _ _ (by simp) (by simp) (.inl rfl) hc⟩
  case noBlink => cases hk; exact .inr ⟨hf, _, _, rfl, dctl _ s.cfg.blinkOn _ _ (by simp) (by simp) (.inr rfl) hc⟩
  case ltr => cases hk; exact .inr ⟨hf, _, _, rfl, emode _ s.cfg.entryLeft _ _ (by simp) (by simp) (.inl rfl) hc⟩
  case rtl => cases hk; exact .inr ⟨hf, _, _, rfl, emode _ s.cfg.entryLeft _ _ (by simp) (by simp) (.inr rfl) hc⟩
  case autoscroll =>
    cases hk; exact .inr ⟨hf, _, _, rfl, emode _ s.cfg.shiftIncrement _ _ (by simp) (by simp) (.inl rfl) hc⟩
  case noAutoscroll =>
    cases hk; exact .inr ⟨hf, _, _, rfl, emode _ s.cfg.shiftIncrement _ _ (by simp) (by simp) (.inr rfl) hc⟩
  case putString => cases hk; exact .inr ⟨hf, _, _, rfl, plain _ _ hc (by simp) (by simp) (stringItems_noRaw _ _)⟩
  case message =>
    split at hk
    · cases hk
      exact .inr ⟨hf, _, _, rfl,
        plain _ _ hc (by simp) (by simp) (by simpa [messageItems] using textItems_noRaw _ _ _)⟩
    · cases hk; exact .inl ⟨_, rfl, by simp [hf]⟩
  case setCursor =>
    split at hk
    · cases hk; exact .inl ⟨_, rfl, by simp [hf]⟩
    split at hk
    · cases hk; exact .inr ⟨hf, _, _, rfl, plain _ _ hc (by simp) (by simp) (by first | rfl | exact wordItems_noRaw _ _ _)⟩
    · cases hk
  all_goals cases hk; exact .inr ⟨hf, _, _, rfl, plain _ _ hc (by simp) (by simp) (by first | rfl | exact wordItems_noRaw _ _ _)⟩

/-- R93, R95: where a clamped row has its line. -/
theorem lineOf_eq_none {n : Nat} : lineOf n = none ↔ n = 0 ∨ 4 < n := by
  unfold lineOf
  split <;> simp <;> omega

/-- R73: what the request decoder names is a request. -/
theorem decodeRequest_isRequest {bytes rest : List Byte} {i : Instr} (h : decodeRequest bytes = .instr i rest) :
    i.isRequest = true := by
  unfold decodeRequest at h
  split at h
  · simp only at h
    split at h
    · cases h
    · split at h
      · rename_i hd
        cases h
        unfold decodeHeader noOperands zeroB zeroA at hd
        split at hd <;> (try split at hd) <;> first | (cases hd; done) | (cases hd; rfl)
      · cases h
  · cases h

end Sys2Proof.Machine
end

