-- ==== Sys2Proof/Laws/PerInstr.lean ====
section
/-! SUPPORT. One law per instruction, over its encoding: a well-formed request is a header of three bytes whose
first and third fix the length of what follows (R62, R65), and a controller word is no request (R54). -/

namespace Sys2Proof.Laws.EncodedLength

/-- R65: the payload of an encoded request has the length its header says; a controller word is no request. -/
def Statement (i : Instr) : Prop :=
  i.wellFormed = true →
    match encode i with
    | .request (op :: _ :: b :: payload) => i.isRequest = true ∧ payload.length = payloadLength op b
    | .request _ => False
    | .word _ => i.isRequest = false

/-- R65: a text that fits has its length in the byte `b`. -/
theorem text_length {text : List Byte} (h : textFits text = true) : text.length = (BitVec.ofNat 8 text.length).toNat := by
  simp only [textFits, decide_eq_true_eq] at h
  rw [BitVec.toNat_ofNat]
  omega

theorem begin (cols lines : Byte) : Statement (.begin cols lines) := fun _ => ⟨rfl, rfl⟩
theorem init : Statement .init := fun _ => ⟨rfl, rfl⟩
theorem clear : Statement .clear := fun _ => ⟨rfl, rfl⟩
theorem home : Statement .home := fun _ => ⟨rfl, rfl⟩
theorem display : Statement .display := fun _ => ⟨rfl, rfl⟩
theorem noDisplay : Statement .noDisplay := fun _ => ⟨rfl, rfl⟩
theorem cursor : Statement .cursor := fun _ => ⟨rfl, rfl⟩
theorem noCursor : Statement .noCursor := fun _ => ⟨rfl, rfl⟩
theorem blink : Statement .blink := fun _ => ⟨rfl, rfl⟩
theorem noBlink : Statement .noBlink := fun _ => ⟨rfl, rfl⟩
theorem ltr : Statement .ltr := fun _ => ⟨rfl, rfl⟩
theorem rtl : Statement .rtl := fun _ => ⟨rfl, rfl⟩
theorem autoscroll : Statement .autoscroll := fun _ => ⟨rfl, rfl⟩
theorem noAutoscroll : Statement .noAutoscroll := fun _ => ⟨rfl, rfl⟩
theorem scrollL : Statement .scrollL := fun _ => ⟨rfl, rfl⟩
theorem scrollR : Statement .scrollR := fun _ => ⟨rfl, rfl⟩
theorem setCursor (col row : Byte) : Statement (.setCursor col row) := fun _ => ⟨rfl, rfl⟩
theorem putChar (ch : Byte) : Statement (.putChar ch) := fun _ => ⟨rfl, rfl⟩
theorem message (startLine : Byte) (text : List Byte) : Statement (.message startLine text) := fun h => ⟨rfl, text_length h⟩
theorem putString (text : List Byte) : Statement (.putString text) := fun h => ⟨rfl, text_length h⟩
theorem wrCmd (w : Byte) : Statement (.wrCmd w) := fun _ => ⟨rfl, rfl⟩
theorem twClearDisplay : Statement .twClearDisplay := fun _ => rfl
theorem twReturnHome : Statement .twReturnHome := fun _ => rfl
theorem twEntryModeSet (i s : BitVec 1) : Statement (.twEntryModeSet i s) := fun _ => rfl
theorem twDisplayControl (d c b : BitVec 1) : Statement (.twDisplayControl d c b) := fun _ => rfl
theorem twCursorShift (r : BitVec 1) : Statement (.twCursorShift r) := fun _ => rfl
theorem twFunctionSet (n f : BitVec 1) : Statement (.twFunctionSet n f) := fun _ => rfl
theorem twSetDdramAddr (a : BitVec 7) : Statement (.twSetDdramAddr a) := fun _ => rfl
theorem twData (c : Byte) : Statement (.twData c) := fun _ => rfl

end Sys2Proof.Laws.EncodedLength
end

