-- ==== Sys2Proof/Laws/Step.lean ====
section
/-! SUPPORT. What a step can do, said once (R5): a reset event, a request port action, or one event of the running
operation; and how a run of several steps unfolds. -/

namespace Sys2Proof.Machine

/-- R153: the reset input comes first. -/
theorem step_reset {s : State} {r : ResetInput} (h : s.rst = some r) : step s = .next (s.applyReset r) := by
  simp [step, stepMachine, h]

/-- R5, R164: a running operation makes its next event. -/
theorem step_running {s : State} (h : s.rst = none) (hr : s.running = true) : step s = sequence s := by
  simp [step, stepMachine, h, hr]

/-- R62: otherwise the request port acts. -/
theorem step_receive {s : State} (h : s.rst = none) (hr : s.running = false) : step s = receive s := by
  simp [step, stepMachine, h, hr]

/-- R17: outside `IDLE` the next event is the wait or the port write `PH` stands at. -/
theorem sequence_phase {s : State} (h : s.ph ≠ .idle) : sequence s = .next s.phaseEvent := by
  unfold sequence
  split
  · exact absurd ‹_› h
  all_goals rfl

/-- R79: in `IDLE` the next item is started, or the operation completes. -/
theorem sequence_idle {s : State} (h : s.ph = .idle) : sequence s = startItem s := by
  simp [sequence, h]

/-- R79: everything the start of an item can be. -/
theorem startItem_cases (s : State) :
    (∃ rs w, s.current = some (.xfer rs w) ∧ startItem s = .next (s.beginXfer rs w)) ∨
    (∃ n, s.current = some (.raw n) ∧ startItem s = .next s.beginRaw) ∨
    (∃ t, s.current = some (.delay t) ∧ startItem s = .next (s.delayItem t)) ∨
    (s.current = none ∧ startItem s = .next s.complete) := by
  unfold startItem
  rcases s.current with _ | ⟨rs, w⟩ | n | t
  · exact .inr (.inr (.inr ⟨rfl, rfl⟩))
  · exact .inl ⟨rs, w, rfl, startWord_eq rs w s⟩
  · exact .inr (.inl ⟨n, rfl, rfl⟩)
  · exact .inr (.inr (.inl ⟨t, rfl, rfl⟩))

/-- R62, R64, R73: everything the request port can do. -/
theorem receive_cases (s : State) :
    (decodeRequest (s.rx ++ s.reqIn) = .incomplete ∧
      receive s = .next { s with rx := s.rx ++ s.reqIn, reqIn := [], busy := !(s.rx ++ s.reqIn).isEmpty }) ∨
    (∃ why rest, decodeRequest (s.rx ++ s.reqIn) = .reserved why rest ∧
      receive s = .next ({ s with rx := [], reqIn := rest } : State).rejectReserved) ∨
    (∃ i rest, decodeRequest (s.rx ++ s.reqIn) = .instr i rest ∧
      receive s = exec i { s with rx := [], reqIn := rest }) := by
  unfold receive
  rcases decodeRequest (s.rx ++ s.reqIn) with _ | ⟨why, rest⟩ | ⟨i, rest⟩
  · exact .inl ⟨rfl, rfl⟩
  · exact .inr (.inl ⟨why, rest, rfl, rfl⟩)
  · exact .inr (.inr ⟨i, rest, rfl, rfl⟩)

/-- No step. -/
@[simp] theorem runSteps_zero (s : State) : runSteps 0 s = .next s := rfl

/-- One step, then the rest of the run. -/
theorem runSteps_succ {n : Nat} {s t : State} (h : step s = .next t) : runSteps (n + 1) s = runSteps n t := by
  simp only [runSteps, h]

/-- Two runs, one after the other. -/
theorem runSteps_add {n m : Nat} {s t : State} (h : runSteps n s = .next t) : runSteps (n + m) s = runSteps m t := by
  induction n generalizing s with
  | zero =>
    obtain rfl : s = t := by simpa using h
    rw [Nat.zero_add]
  | succ n ih =>
    simp only [runSteps] at h
    rw [Nat.succ_add]
    simp only [runSteps]
    cases hs : step s with
    | next u => rw [hs] at h; exact ih h
    | fault r => rw [hs] at h; cases h
    | refused r => rw [hs] at h; cases h

/-- The run is the host's. -/
theorem runSteps_eq_core_run (n : Nat) (s : State) : runSteps n s = Host.Core.run Sys2Proof.core n s := by
  induction n generalizing s with
  | zero => rfl
  | succ n ih =>
    simp only [Host.Core.run, runSteps]
    have hc : core.step s = step s := rfl
    cases h : step s with
    | next t => simp only [hc.trans h]; exact ih t
    | fault r => simp only [hc.trans h]; rfl
    | refused r => simp only [hc.trans h]; rfl

end Sys2Proof.Machine
end

