-- ==== Sys2Proof/Machine/Environment.lean ====
section
/-! DEFINITION. What the outside does to the machine's inputs (D2): the host presents request bytes, the transport
answers, the reset input is asserted, the host waits. Each is an action of another agent (R6), not a step of the
block. -/

namespace Sys2Proof.Machine

/-- The host presents more request bytes (R62). -/
def State.present (s : State) (bytes : List Byte) : State := { s with reqIn := s.reqIn ++ bytes }

/-- The transport answers coming port writes (R40). -/
def State.answer (s : State) (as : List Answer) : State := { s with answers := s.answers ++ as }

/-- The reset input is asserted with its straps (R153). -/
def State.assertReset (s : State) (r : ResetInput) : State := { s with rst := some r }

/-- The host lets at least `t` microseconds pass before its next request (R162). -/
def State.hostWait (s : State) (t : Nat) : State := { s with env := s.env.wait t }

end Sys2Proof.Machine
end

