-- ==== Sys2Proof/Tests/Slice0.lean ====
section
/-! SUPPORT. Tests. Expected values come from the spec's own vectors (spec/95_test_vectors.md, named by section) or are
written out by hand from the encoding tables (R59, R63). Each theorem is about one decoding or one step on a small
state built by a helper here. The last part shows, for every obligation with hypotheses, values that meet them. -/

namespace Sys2Proof.Tests

open Sys2Proof Sys2Proof.Machine

/-- The block after `BEGIN 20, 4` (program P1 of section 3), idle, whose transport answers every write asked for. -/
def ready : State :=
  { State.reset with
    configured := true, numLines := 4#3, numCols := 20#8, func := 0x08#8, answers := List.replicate 7 .ok }

/-- `ready` under the sticky fault. -/
def faulted : State := { ready with fault := true, status := .transportError }

/-- `ready` with a word transfer running, at the phase `ph`, the shadow holding `port`. -/
def sending (rs : Bool) (w : Byte) (ph : Phase) (port : Byte) : State :=
  { ready with busy := true, expansion := [.xfer rs w], w := w, rsl := rs, ph := ph, port := port }

/-- `ready` with the raw nibble of R123 running, at the phase `ph`. -/
def sendingRaw (ph : Phase) (port : Byte) : State :=
  { ready with busy := true, expansion := [.raw 0x2#4], ph := ph, port := port }

/-- What one answered state shows through `f`; nothing for a stop. -/
def view {α : Type} (f : State → α) : Result → Option α
  | .next t => some (f t)
  | .fault _ => none
  | .refused _ => none

/-- The items, and the status and busy outputs, after one step. -/
def accepted (t : State) : List Item × Status × Bool := (t.expansion, t.status, t.busy)

/-- Verdict, busy, expansion and trace after the acceptance of a request turned away. -/
def turnedAway (t : State) : Option ErrorKind × Bool × List Item × List Event :=
  (t.verdict, t.busy, t.expansion, t.trace)

/-- The latches, the shadow, the phase and the trace after one port write. -/
def lines (t : State) : Byte × Bool × Byte × Phase × List Event := (t.w, t.rsl, t.port, t.ph, t.trace)

/-! Well-formedness: the one check (R65). -/

theorem test_wellFormed_text_255 : (Instr.putString (List.replicate 255 0x41#8)).wellFormed = true := by
  simp only [Instr.wellFormed, textFits, List.length_replicate]; decide
theorem test_wellFormed_refuses_putString_256 :
    (Instr.putString (List.replicate 256 0x41#8)).wellFormed = false := by
  simp only [Instr.wellFormed, textFits, List.length_replicate]; decide
theorem test_wellFormed_refuses_message_256 :
    (Instr.message 1#8 (List.replicate 256 0x41#8)).wellFormed = false := by
  simp only [Instr.wellFormed, textFits, List.length_replicate]; decide
theorem test_wellFormed_other : (Instr.setCursor 0#8 0#8).wellFormed = true := by decide

/-! Decoding: one encoding of every constructor, written out from R63 and R59. -/

theorem test_decode_begin : decodeRequest [0x01#8, 0x14#8, 0x04#8] = .instr (.begin 20#8 4#8) [] := by decide
theorem test_decode_init : decodeRequest [0x02#8, 0x00#8, 0x00#8] = .instr (.init) [] := by decide
theorem test_decode_clear : decodeRequest [0x03#8, 0x00#8, 0x00#8] = .instr (.clear) [] := by decide
theorem test_decode_home : decodeRequest [0x04#8, 0x00#8, 0x00#8] = .instr (.home) [] := by decide
theorem test_decode_display : decodeRequest [0x05#8, 0x00#8, 0x00#8] = .instr (.display) [] := by decide
theorem test_decode_noDisplay : decodeRequest [0x06#8, 0x00#8, 0x00#8] = .instr (.noDisplay) [] := by decide
theorem test_decode_cursor : decodeRequest [0x07#8, 0x00#8, 0x00#8] = .instr (.cursor) [] := by decide
theorem test_decode_noCursor : decodeRequest [0x08#8, 0x00#8, 0x00#8] = .instr (.noCursor) [] := by decide
theorem test_decode_blink : decodeRequest [0x09#8, 0x00#8, 0x00#8] = .instr (.blink) [] := by decide
theorem test_decode_noBlink : decodeRequest [0x0A#8, 0x00#8, 0x00#8] = .instr (.noBlink) [] := by decide
theorem test_decode_ltr : decodeRequest [0x0B#8, 0x00#8, 0x00#8] = .instr (.ltr) [] := by decide
theorem test_decode_rtl : decodeRequest [0x0C#8, 0x00#8, 0x00#8] = .instr (.rtl) [] := by decide
theorem test_decode_autoscroll : decodeRequest [0x0D#8, 0x00#8, 0x00#8] = .instr (.autoscroll) [] := by decide
theorem test_decode_noAutoscroll : decodeRequest [0x0E#8, 0x00#8, 0x00#8] = .instr (.noAutoscroll) [] := by decide
theorem test_decode_scrollL : decodeRequest [0x0F#8, 0x00#8, 0x00#8] = .instr (.scrollL) [] := by decide
theorem test_decode_scrollR : decodeRequest [0x10#8, 0x00#8, 0x00#8] = .instr (.scrollR) [] := by decide
theorem test_decode_setCursor : decodeRequest [0x11#8, 0x05#8, 0x03#8] = .instr (.setCursor 5#8 3#8) [] := by decide
theorem test_decode_putChar : decodeRequest [0x12#8, 0x41#8, 0x00#8] = .instr (.putChar 0x41#8) [] := by decide
theorem test_decode_message : decodeRequest [0x13#8, 0x02#8, 0x02#8, 0x41#8, 0x0A#8] = .instr (.message 2#8 [0x41#8, 0x0A#8]) [] := by decide
theorem test_decode_putString : decodeRequest [0x14#8, 0x00#8, 0x01#8, 0x58#8] = .instr (.putString [0x58#8]) [] := by decide
theorem test_decode_wrCmd : decodeRequest [0x15#8, 0x40#8, 0x00#8] = .instr (.wrCmd 0x40#8) [] := by decide
theorem test_decode_twClearDisplay : decodeTransferWord 0b000000001#9 = some (.twClearDisplay) := by decide
theorem test_decode_twReturnHome : decodeTransferWord 0b000000010#9 = some (.twReturnHome) := by decide
theorem test_decode_twEntryModeSet : decodeTransferWord 0b000000110#9 = some (.twEntryModeSet 1#1 0#1) := by decide
theorem test_decode_twDisplayControl : decodeTransferWord 0b000001100#9 = some (.twDisplayControl 1#1 0#1 0#1) := by decide
theorem test_decode_twCursorShift : decodeTransferWord 0b000011100#9 = some (.twCursorShift 1#1) := by decide
theorem test_decode_twFunctionSet : decodeTransferWord 0b000101000#9 = some (.twFunctionSet 1#1 0#1) := by decide
theorem test_decode_twSetDdramAddr : decodeTransferWord 0b011010100#9 = some (.twSetDdramAddr 0x54#7) := by decide
theorem test_decode_twData : decodeTransferWord 0b110100101#9 = some (.twData 0xA5#8) := by decide

/-- R43: SETCGRAMADDR has no row; it is sent by pass-through. -/
theorem test_decode_cgram_has_no_row : decodeTransferWord 0b001000000#9 = none := by decide
/-- Section 2.6: PUTSTRING with `a` not 0; its payload is still consumed. -/
theorem test_decode_reserved_payload :
    decodeRequest [0x14#8, 0x01#8, 0x02#8, 0x41#8, 0x42#8, 0x03#8] =
      .reserved (.mustBeZero 0x14#8 0x01#8 0x02#8) [0x03#8] := by decide
/-- R62: two bytes are no request yet. -/
theorem test_decode_incomplete : decodeRequest [0x14#8, 0x00#8] = .incomplete := by decide
theorem test_table_request : decodeTableWord 24 0x011404 = some (.begin 20#8 4#8) := by decide
theorem test_table_message : decodeTableWord 24 0x130102 = some (.message 1#8 [0#8, 0#8]) := by decide
theorem test_table_word : decodeTableWord 16 0x1A5 = some (.twData 0xA5#8) := by decide

/-! One step of each request: section 2.2 to 2.5 and 2.7. -/

/-- Program P1, request 1. -/
theorem test_begin :
    view (fun t => (t.func, t.numCols, t.numLines, t.configured, t.expansion)) (exec (.begin 20#8 4#8) State.reset) =
      some (0x08#8, 20#8, 4#3, true, []) := by decide
/-- Program P7, request 3. -/
theorem test_begin_rejects :
    view turnedAway (exec (.begin 20#8 5#8) State.reset) = some (some .configuration, true, [], []) := by decide
/-- Program P1, request 2: the words 28, 0C, 06, 01, 02, a delay after each of the last two. -/
theorem test_init :
    view accepted (exec .init ready) =
      some ([.xfer false 0x28#8, .xfer false 0x0C#8, .xfer false 0x06#8, .xfer false 0x01#8, .delay 3000,
        .xfer false 0x02#8, .delay 3000], .ok, true) := by decide
/-- Program P4, request 2: the power-up path comes first, and the flag is cleared. -/
theorem test_init_powerUp :
    view (fun t => (t.expansion.take 2, t.pwrup)) (exec .init { ready with pwrup := true }) =
      some ([.raw 0x2#4, .delay 10000], false) := by decide
theorem test_clear : view accepted (exec .clear ready) = some ([.xfer false 0x01#8, .delay 3000], .ok, true) := by decide
theorem test_home : view accepted (exec .home ready) = some ([.xfer false 0x02#8, .delay 3000], .ok, true) := by decide

/-! The toggles: program P5 and section 2.4. -/

theorem test_display :
    view (fun t => (t.dctl, t.expansion)) (exec .display { ready with dctl := 0x03#8 }) =
      some (0x07#8, [.xfer false 0x0F#8]) := by decide
theorem test_noDisplay :
    view (fun t => (t.dctl, t.expansion)) (exec .noDisplay { ready with dctl := 0x07#8 }) =
      some (0x03#8, [.xfer false 0x0B#8]) := by decide
theorem test_cursor :
    view (fun t => (t.dctl, t.expansion)) (exec .cursor { ready with dctl := 0x04#8 }) =
      some (0x06#8, [.xfer false 0x0E#8]) := by decide
theorem test_noCursor :
    view (fun t => (t.dctl, t.expansion)) (exec .noCursor { ready with dctl := 0x07#8 }) =
      some (0x05#8, [.xfer false 0x0D#8]) := by decide
theorem test_blink :
    view (fun t => (t.dctl, t.expansion)) (exec .blink { ready with dctl := 0x06#8 }) =
      some (0x07#8, [.xfer false 0x0F#8]) := by decide
theorem test_noBlink :
    view (fun t => (t.dctl, t.expansion)) (exec .noBlink { ready with dctl := 0x05#8 }) =
      some (0x04#8, [.xfer false 0x0C#8]) := by decide
theorem test_ltr :
    view (fun t => (t.emode, t.expansion)) (exec .ltr { ready with emode := 0x01#8 }) =
      some (0x03#8, [.xfer false 0x07#8]) := by decide
theorem test_rtl :
    view (fun t => (t.emode, t.expansion)) (exec .rtl { ready with emode := 0x02#8 }) =
      some (0x00#8, [.xfer false 0x04#8]) := by decide
theorem test_autoscroll :
    view (fun t => (t.emode, t.expansion)) (exec .autoscroll { ready with emode := 0x00#8 }) =
      some (0x01#8, [.xfer false 0x05#8]) := by decide
theorem test_noAutoscroll :
    view (fun t => (t.emode, t.expansion)) (exec .noAutoscroll { ready with emode := 0x03#8 }) =
      some (0x02#8, [.xfer false 0x06#8]) := by decide
theorem test_scrollL : view accepted (exec .scrollL ready) = some ([.xfer false 0x18#8], .ok, true) := by decide
theorem test_scrollR : view accepted (exec .scrollR ready) = some ([.xfer false 0x1C#8], .ok, true) := by decide

/-! The address decoder: section 2.3. -/

theorem test_setCursor_wraps :
    view accepted (exec (.setCursor 255#8 4#8) ready) = some ([.xfer false 0xD2#8], .ok, true) := by decide
theorem test_setCursor_clamps :
    view accepted (exec (.setCursor 5#8 4#8) { ready with numLines := 1#3 }) =
      some ([.xfer false 0x84#8], .ok, true) := by decide
theorem test_setCursor_zero :
    view turnedAway (exec (.setCursor 0#8 1#8) ready) = some (some .request, true, [], []) := by decide

/-! Text: S10, program P2 and section 2.7. -/

theorem test_message_lines :
    view accepted (exec (.message 4#8 [0x41#8, 0x0A#8, 0x42#8]) ready) =
      some ([.xfer false 0xD4#8, .xfer true 0x41#8, .xfer false 0x80#8, .xfer true 0x42#8], .ok, true) := by decide
theorem test_message_rejects :
    view turnedAway (exec (.message 5#8 [0x41#8]) ready) = some (some .request, true, [], []) := by decide
theorem test_putString_newline :
    view accepted (exec (.putString [0x0A#8, 0x58#8]) ready) =
      some ([.xfer true 0x0A#8, .xfer true 0x58#8], .ok, true) := by decide
theorem test_putChar : view accepted (exec (.putChar 0x0A#8) ready) = some ([.xfer true 0x0A#8], .ok, true) := by decide
theorem test_wrCmd : view accepted (exec (.wrCmd 0x40#8) ready) = some ([.xfer false 0x40#8], .ok, true) := by decide
theorem test_putChar_unconfigured :
    view turnedAway (exec (.putChar 0x41#8) State.reset) = some (some .request, true, [], []) := by decide
theorem test_begin_faulted :
    view turnedAway (exec (.begin 0#8 0#8) faulted) = some (some .transport, true, [], []) := by decide

/-- The completion of a request turned away (section 2.7, a second BEGIN). -/
theorem test_complete_rejected :
    view (fun t => (t.status, t.fault, t.busy, t.verdict))
      (step { ready with busy := true, verdict := some .configuration }) =
      some (.configurationError, false, false, none) := by decide
/-- R11: with `T_CMD` not 0, a delay follows a word that is given no other. -/
theorem test_scrollR_tCmd :
    view accepted (exec .scrollR { ready with cfg := { Params.spec with tCmd := 40 } }) =
      some ([.xfer false 0x1C#8, .delay 40], .ok, true) := by decide

/-! The controller words: the first write of each (section 2.1). -/

theorem test_twClearDisplay :
    view lines (exec .twClearDisplay (sending false 0x01#8 .idle 0x00#8)) =
      some (0x01#8, false, 0x08#8, .hiEn1, [.write 0x08#8]) := by decide
theorem test_twReturnHome :
    view lines (exec .twReturnHome (sending false 0x02#8 .idle 0x00#8)) =
      some (0x02#8, false, 0x08#8, .hiEn1, [.write 0x08#8]) := by decide
theorem test_twEntryModeSet :
    view lines (exec (.twEntryModeSet 1#1 0#1) (sending false 0x06#8 .idle 0x00#8)) =
      some (0x06#8, false, 0x08#8, .hiEn1, [.write 0x08#8]) := by decide
theorem test_twDisplayControl :
    view lines (exec (.twDisplayControl 1#1 0#1 0#1) (sending false 0x0C#8 .idle 0x00#8)) =
      some (0x0C#8, false, 0x08#8, .hiEn1, [.write 0x08#8]) := by decide
theorem test_twCursorShift :
    view lines (exec (.twCursorShift 1#1) (sending false 0x1C#8 .idle 0x00#8)) =
      some (0x1C#8, false, 0x18#8, .hiEn1, [.write 0x18#8]) := by decide
theorem test_twFunctionSet :
    view lines (exec (.twFunctionSet 1#1 0#1) (sending false 0x28#8 .idle 0x00#8)) =
      some (0x28#8, false, 0x28#8, .hiEn1, [.write 0x28#8]) := by decide
theorem test_twSetDdramAddr :
    view lines (exec (.twSetDdramAddr 0x14#7) (sending false 0x94#8 .idle 0x00#8)) =
      some (0x94#8, false, 0x98#8, .hiEn1, [.write 0x98#8]) := by decide
theorem test_twData :
    view lines (exec (.twData 0xA5#8) (sending true 0xA5#8 .idle 0x00#8)) =
      some (0xA5#8, true, 0xA9#8, .hiEn1, [.write 0xA9#8]) := by decide

/-! The phases of S3 (the word 28, RS = 0) after the first, one step each. -/

theorem test_phase_hiEn1 :
    view (fun t => (t.port, t.ph, t.trace)) (step (sending false 0x28#8 .hiEn1 0x28#8)) =
      some (0x2C#8, .hiEn0, [.write 0x2C#8]) := by decide
theorem test_phase_hiEn0 :
    view (fun t => (t.port, t.ph, t.trace)) (step (sending false 0x28#8 .hiEn0 0x2C#8)) =
      some (0x28#8, .loData, [.write 0x28#8]) := by decide
theorem test_phase_loData :
    view (fun t => (t.port, t.ph, t.trace)) (step (sending false 0x28#8 .loData 0x28#8)) =
      some (0x88#8, .loEn1, [.write 0x88#8]) := by decide
theorem test_phase_loEn1 :
    view (fun t => (t.port, t.ph, t.trace)) (step (sending false 0x28#8 .loEn1 0x88#8)) =
      some (0x8C#8, .loEn0, [.write 0x8C#8]) := by decide
theorem test_phase_loEn0 :
    view (fun t => (t.port, t.ph, t.trace)) (step (sending false 0x28#8 .loEn0 0x8C#8)) =
      some (0x88#8, .release, [.write 0x88#8]) := by decide
theorem test_phase_release :
    view (fun t => (t.port, t.ph, t.trace)) (step (sending false 0x28#8 .release 0x88#8)) =
      some (0x08#8, .idle, [.write 0x08#8]) := by decide
/-- Section 2.2: a raw nibble ends after its pulse. -/
theorem test_phase_raw_end :
    view (fun t => (t.port, t.ph, t.item)) (step (sendingRaw .hiEn0 0x2C#8)) = some (0x28#8, .idle, 1) := by decide
/-- Section 2.7, the row k = 5. -/
theorem test_phase_failure :
    view (fun t => (t.status, t.fault, t.busy, t.port, t.trace))
      (step { sending true 0x41#8 .loEn1 0x19#8 with answers := [.error false false] }) =
      some (.transportError, true, false, 0x19#8, [.writeFail 0x1D#8]) := by decide
/-- R83: with `T_PW` not 0, EN stays set for it before the EN-cleared write. -/
theorem test_phase_owes_wait :
    view (fun t => (t.settle, t.ph, t.trace))
      (step { sending false 0x28#8 .hiEn1 0x28#8 with cfg := { Params.spec with tPw := 5 } }) =
      some (5, .hiEn0, [.write 0x2C#8]) := by decide
theorem test_phase_waits :
    view (fun t => (t.settle, t.ph, t.trace)) (step { sending false 0x28#8 .hiEn0 0x2C#8 with settle := 5 }) =
      some (0, .hiEn0, [.delay 5]) := by decide
/-- R143: both nibbles of CLEARDISPLAY are in, though the EN-cleared write was answered with an error. -/
theorem test_phase_latched_owes :
    view (fun t => (t.env.busyTime, t.status))
      (step { sending false 0x01#8 .loEn0 0x1C#8 with answers := [.error true true] }) =
      some (3000, .transportError) := by decide
/-- R153 in the middle of a transfer. -/
theorem test_reset_event :
    view (fun t => (t.ph, t.busy, t.configured, t.dctl, t.bl))
      (step ((sending true 0x41#8 .loEn1 0x19#8).assertReset { ResetInput.default with backlight := false })) =
      some (.idle, false, false, 0x04#8, false) := by decide
/-- R62: `BUSY` rises with byte 0. -/
theorem test_receive_first_byte :
    view (fun t => (t.busy, t.rx, t.reqIn)) (step (State.reset.present [0x02#8])) = some (true, [0x02#8], []) := by decide

/-! Fetching: the very next step runs the placed instruction. -/

theorem test_fetch_begin :
    view (fun t => (t.configured, t.numCols)) (step (State.reset.withFetchWord 24 0x011404)) = some (true, 20#8) := by
  decide
theorem test_fetch_word :
    view (fun t => (t.w, t.rsl, t.ph)) (step (State.reset.withFetchWord 16 0x1A5)) = some (0xA5#8, true, .hiData) := by
  decide

/-! Reading a trace: section 2.8. -/

theorem test_received :
    received Params.spec ([0x49#8, 0x4D#8, 0x49#8, 0x19#8, 0x1D#8, 0x19#8, 0x08#8].map .write) = [(true, 0x41#8)] := by
  decide

/-! Witnesses: values that meet the hypotheses of every obligation that has some. -/

theorem ready_ready : Ready ready := ⟨rfl, rfl, rfl, rfl⟩

theorem ready_powerUp : Ready { ready with pwrup := true } := ⟨rfl, rfl, rfl, rfl⟩

/-- The invariant in the middle of a word transfer. -/
theorem sending_inv : Inv (sending false 0x28#8 .hiEn1 0x28#8) := by
  refine ⟨by decide, ⟨by decide, by decide, by decide, by decide⟩, ⟨by decide, by decide, by decide⟩,
    ⟨by decide, by decide, .inl rfl, by decide, rfl, by decide, fun _ => .inl rfl⟩, ?_,
    ⟨by decide, by decide, fun _ h => by cases h⟩⟩
  exact ⟨by decide, by decide, by decide, by decide, by decide, by decide⟩

/-- The invariant at the first and at the last write of a word transfer. -/
theorem sending_inv_first : Inv (sending true 0x41#8 .hiData 0x00#8) := by
  refine ⟨by decide, ⟨by decide, by decide, by decide, by decide⟩, ⟨by decide, by decide, by decide⟩,
    ⟨by decide, by decide, .inl rfl, by decide, rfl, by decide, fun _ => .inl rfl⟩, ?_,
    ⟨by decide, by decide, fun _ h => by cases h⟩⟩
  exact ⟨by decide, by decide, by decide, by decide, by decide, by decide⟩

theorem sending_inv_last : Inv (sending false 0x28#8 .release 0x88#8) := by
  refine ⟨by decide, ⟨by decide, by decide, by decide, by decide⟩, ⟨by decide, by decide, by decide⟩,
    ⟨by decide, by decide, .inl rfl, by decide, rfl, by decide, fun _ => .inl rfl⟩, ?_,
    ⟨by decide, by decide, fun _ h => by cases h⟩⟩
  exact ⟨by decide, by decide, by decide, by decide, by decide, by decide⟩

theorem witness_ResetEventRestoresAndAloneClears :
    (faulted.assertReset ResetInput.default).rst = some ResetInput.default ∧
      faulted.rst = none ∧ faulted.fault = true ∧ faulted.configured = true ∧ ∃ t, step faulted = .next t :=
  ⟨rfl, rfl, rfl, rfl, _, rfl⟩

theorem witness_ResetEventEmitsNothing :
    ((sending true 0x41#8 .loEn1 0x19#8).assertReset ResetInput.default).rst = some ResetInput.default := rfl

theorem witness_StepKeepsInvariant :
    Inv (sending false 0x28#8 .hiEn1 0x28#8) ∧ ∃ t, step (sending false 0x28#8 .hiEn1 0x28#8) = .next t :=
  ⟨sending_inv, _, rfl⟩

theorem witness_StepNeverStops : Inv (sending false 0x28#8 .release 0x88#8) := sending_inv_last

theorem witness_NoUndefinedRegisterBits :
    Params.spec.wfResets = true ∧ RegistersClean ready ∧
      ∃ t, step (ready.present [0x05#8, 0x00#8, 0x00#8]) = .next t :=
  ⟨by decide, ⟨by decide, by decide, by decide, by decide⟩, _, rfl⟩

theorem witness_ReadWriteLineNeverSet :
    Inv (sending false 0x28#8 .hiEn1 0x28#8) ∧ RwClear (sending false 0x28#8 .hiEn1 0x28#8) ∧
      ∃ t, step (sending false 0x28#8 .hiEn1 0x28#8) = .next t :=
  ⟨sending_inv, fun _ h => by simp [sending, ready, State.reset, State.resetWith] at h, _, rfl⟩

theorem witness_RequestDecodesToItself :
    (Instr.message 255#8 (List.replicate 255 0x0A#8)).wellFormed = true ∧
      (Instr.message 255#8 (List.replicate 255 0x0A#8)).isRequest = true :=
  ⟨by simp only [Instr.wellFormed, textFits, List.length_replicate]; decide, rfl⟩

theorem witness_DecodedRequestEncodesBack :
    decodeRequest [0x14#8, 0x00#8, 0x01#8, 0x58#8, 0x03#8] = .instr (.putString [0x58#8]) [0x03#8] := by decide

theorem witness_TransferWordsAgree :
    (Instr.twSetDdramAddr 0x7F#7).isRequest = false ∧ decodeTransferWord 0b000011000#9 = some (.twCursorShift 0#1) := by
  decide

/-- One header of each clause, at a boundary of its range. -/
theorem witness_ReservedHeadersAreNamed :
    (0x16 ≤ (0x16#8 : Byte).toNat) ∧ (0x16 ≤ (0xFF#8 : Byte).toNat) ∧
      (0x02 ≤ (0x10#8 : Byte).toNat ∧ (0x10#8 : Byte).toNat ≤ 0x10 ∧ (0#8 ≠ 0#8 ∨ 1#8 ≠ 0#8)) ∧
      ((0x15#8 : Byte) = 0x12#8 ∨ (0x15#8 : Byte) = 0x15#8) ∧
      (0xFF#8 ≠ 0#8 ∧ [0x41#8, 0x42#8].length = (2#8 : Byte).toNat) := by decide

theorem witness_StepRunsDecodedRequest :
    let s := ready.present [0x03#8, 0x00#8, 0x00#8, 0x04#8]
    s.rst = none ∧ s.running = false ∧ decodeRequest (s.rx ++ s.reqIn) = .instr .clear [0x04#8] := by decide

theorem witness_StepRunsTransferWord :
    let s := sending true 0x41#8 .idle 0x00#8
    s.rst = none ∧ s.running = true ∧ s.ph = .idle ∧ s.current = some (.xfer true 0x41#8) ∧
      decodeTransferWord (BitVec.ofBool true ++ 0x41#8) = some (.twData 0x41#8) := by decide

theorem witness_IncompleteRequestIsAwaited :
    let s := ready.present [0x13#8, 0x01#8, 0x02#8, 0x41#8]
    s.rst = none ∧ s.running = false ∧ decodeRequest (s.rx ++ s.reqIn) = .incomplete := by decide

theorem witness_RunningOperationHoldsRequestsOff :
    let s := (sending true 0x41#8 .loEn1 0x19#8).present [0x03#8, 0x00#8, 0x00#8]
    s.rst = none ∧ s.running = true ∧ ∃ t, step s = .next t := ⟨rfl, rfl, _, rfl⟩

theorem witness_ReservedRequestIsRejected :
    let s := ready.present [0x16#8, 0x00#8, 0x00#8]
    s.rst = none ∧ s.running = false ∧ decodeRequest (s.rx ++ s.reqIn) = .reserved (.opcode 0x16#8) [] := by decide

theorem witness_UnconfiguredOperationIsRejected :
    Instr.home.isRequest = true ∧ (∀ cols lines, Instr.home ≠ .begin cols lines) ∧ State.reset.fault = false ∧
      State.reset.configured = false := ⟨rfl, by simp, rfl, rfl⟩

theorem witness_StickyFaultRejectsOperations : (Instr.begin 1#8 1#8).isRequest = true ∧ faulted.fault = true := by decide

/-- For the completion clause of every statement that a request is turned away. -/
theorem witness_TurnedAway : ready.rst = none ∧ ready.rx = [] ∧ faulted.rst = none ∧ faulted.rx = [] := by decide

theorem witness_OnlyNamedRegistersChange :
    Instr.rtl.isRequest = true ∧ (∃ t, exec .rtl ready = .next t) ∧ (∀ cols lines, Instr.rtl ≠ .begin cols lines) ∧
      Instr.rtl ∉ [Instr.display, .noDisplay, .cursor, .noCursor, .blink, .noBlink] ∧ Instr.rtl ≠ .init ∧
      (∃ t, exec .blink ready = .next t) ∧ Instr.blink ∉ [Instr.ltr, .rtl, .autoscroll, .noAutoscroll] :=
  ⟨rfl, ⟨_, rfl⟩, by simp, by decide, by decide, ⟨_, rfl⟩, by decide⟩

/-- Both ends of the range of `lines`. -/
theorem witness_BeginSetsGeometry :
    State.reset.fault = false ∧ State.reset.configured = false ∧ State.reset.rst = none ∧ State.reset.rx = [] ∧
      (1#8 : Byte) ≠ 0#8 ∧ 1 ≤ (1#8 : Byte).toNat ∧ (1#8 : Byte).toNat ≤ 4 ∧ 1 ≤ (4#8 : Byte).toNat ∧
      (4#8 : Byte).toNat ≤ 4 := by decide

/-- `lines` one past its range, and a second BEGIN. -/
theorem witness_BeginRejectsInvalidGeometry :
    State.reset.fault = false ∧ 4 < (5#8 : Byte).toNat ∧ ready.fault = false ∧ ready.configured = true := by decide

theorem witness_InitRunsBringUpSequence :
    (Ready ready ∧ ready.cfg.wfMasks = true ∧
        Answered { ready with answers := List.replicate 35 .ok } (if ready.pwrup then 38 else 35)) ∧
      (Ready { ready with pwrup := true } ∧
        Answered { ready with pwrup := true, answers := List.replicate 38 .ok } 38) :=
  ⟨⟨ready_ready, by decide, [], rfl⟩, ready_powerUp, [], rfl⟩

/-- For the statements about an operation of one word: DisplayControlToggles, EntryModeToggles,
ScrollsSendConstantWord, ClearAndHomeSendAndDelay, WrCmdAndPutCharSendOneWord. -/
theorem witness_oneWord : Ready ready ∧ ready.cfg.wfMasks = true ∧ Answered ready 7 :=
  ⟨ready_ready, by decide, [], rfl⟩

theorem witness_SetCursorSendsAddress :
    Ready ready ∧ ready.cfg.wfMasks = true ∧ Answered ready 7 ∧ 1 ≤ ready.numLines.toNat ∧ ready.numLines.toNat ≤ 4 ∧
      (255#8 : Byte) ≠ 0#8 ∧ (1#8 : Byte) ≠ 0#8 := ⟨ready_ready, by decide, ⟨[], rfl⟩, by decide⟩

/-- One state for each clause: a zero column, no lines, and more lines than the table has. -/
theorem witness_SetCursorDomain :
    (ready.fault = false ∧ ready.configured = true ∧ ((0#8 : Byte) = 0#8 ∨ (1#8 : Byte) = 0#8)) ∧
      ({ ready with numLines := 0#3 } : State).numLines = 0#3 ∧
      (4 < ({ ready with numLines := 5#3 } : State).numLines.toNat ∧ 4 < (5#8 : Byte).toNat) := by decide

/-- The last line that may start a message. -/
theorem witness_MessageSendsLinesAndCharacters :
    Ready ready ∧ ready.cfg.wfMasks = true ∧
      Answered { ready with answers := List.replicate 14 .ok } (7 * (1 + [0x0A#8].length)) ∧
      1 ≤ (4#8 : Byte).toNat ∧ (4#8 : Byte).toNat ≤ 4 := ⟨ready_ready, by decide, ⟨[], rfl⟩, by decide⟩

theorem witness_MessageRejectsStartLine :
    ready.fault = false ∧ ready.configured = true ∧ ((0#8 : Byte) = 0#8 ∨ 4 < (0#8 : Byte).toNat) ∧
      4 < (5#8 : Byte).toNat := by decide

theorem witness_PutStringSendsVerbatim :
    Ready ready ∧ ready.cfg.wfMasks = true ∧ Answered ready (7 * [0x0A#8].length) ∧
      Answered ready (7 * ([] : List Byte).length) := ⟨ready_ready, by decide, ⟨[], rfl⟩, _, rfl⟩

theorem witness_TransferWordMakesSevenWrites :
    let s := sending true 0xA5#8 .idle 0x00#8
    (Instr.twData 0xA5#8).isRequest = false ∧ encode (.twData 0xA5#8) = .word (BitVec.ofBool true ++ 0xA5#8) ∧
      s.cfg.wfMasks = true ∧ s.rst = none ∧ s.running = true ∧ s.current = some (.xfer true 0xA5#8) ∧
      s.answers = List.replicate 7 .ok ++ [] := by decide

theorem witness_RawNibbleMakesThreeWrites :
    let s := { sendingRaw .idle 0x00#8 with answers := List.replicate 3 .ok }
    s.cfg.wfMasks = true ∧ s.rst = none ∧ s.running = true ∧ s.ph = .idle ∧ s.current = some (.raw 0x2#4) ∧
      s.answers = List.replicate 3 .ok ++ [] := by decide

theorem witness_SequencerExecutesExpansion :
    ready.cfg.wfMasks = true ∧ ready.rst = none ∧ ready.rx = [] ∧
      Answered ready (writeCount [.delay 3000, .xfer false 0x01#8]) := ⟨by decide, rfl, rfl, [], rfl⟩

/-- The first and the last write of an expansion fail. -/
theorem witness_TransportFailureEndsOperation :
    let items : List Item := [.raw 0x2#4, .delay 10000]
    ready.cfg.wfMasks = true ∧ ready.rst = none ∧ ready.rx = [] ∧ delaysPositive items = true ∧ 0 < writeCount items ∧
      2 < writeCount items ∧
      ({ ready with answers := [.error true false] } : State).answers =
        List.replicate 0 .ok ++ .error true false :: [] ∧
      ({ ready with answers := [.ok, .ok, .error false true] } : State).answers =
        List.replicate 2 .ok ++ .error false true :: [] := by decide

theorem witness_UnansweredWriteWaits :
    let s := { sending false 0x28#8 .release 0x88#8 with answers := [] }
    let u := { sending false 0x28#8 .idle 0x88#8 with answers := [] }
    let r := { sendingRaw .idle 0x00#8 with answers := [] }
    (s.rst = none ∧ s.running = true ∧ s.ph ≠ .idle ∧ s.settle = 0 ∧ s.answers = []) ∧
      (u.rst = none ∧ u.running = true ∧ u.ph = .idle ∧ u.current = some (.xfer false 0x28#8) ∧ u.answers = []) ∧
      (r.rst = none ∧ r.running = true ∧ r.ph = .idle ∧ r.current = some (.raw 0x2#4) ∧ r.answers = []) := by
  decide

theorem witness_OwedWaitPrecedesWrite :
    let s := { sending false 0x28#8 .hiEn0 0x2C#8 with settle := 5 }
    s.rst = none ∧ s.running = true ∧ s.ph ≠ .idle ∧ s.settle ≠ 0 := by decide

/-- An operation at its end, and a request turned away. -/
theorem witness_CompletionIsOneEvent :
    let s := { sending false 0x28#8 .idle 0x08#8 with item := 1 }
    let u := { ready with busy := true, verdict := some .request }
    (s.rst = none ∧ s.running = true ∧ s.ph = .idle ∧ s.current = none) ∧
      (u.rst = none ∧ u.running = true ∧ u.ph = .idle ∧ u.current = none) := by decide

theorem witness_PhaseByteFollowsMultiplexer :
    let s := sending true 0x41#8 .hiData 0x00#8
    let u := sending false 0x28#8 .release 0x88#8
    (Inv s ∧ s.rst = none ∧ s.running = true ∧ s.ph ≠ .idle ∧ s.settle = 0 ∧
        s.current = some (.xfer s.rsl s.w) ∧ s.answers = .ok :: List.replicate 6 .ok) ∧
      (Inv u ∧ u.ph ≠ .idle ∧ u.settle = 0 ∧ u.current = some (.xfer u.rsl u.w)) :=
  ⟨⟨sending_inv_first, by decide⟩, sending_inv_last, by decide⟩

theorem witness_FourPhasesPerWord :
    ready.cfg.wfMasks = true ∧ ready.rst = none ∧ ready.rx = [] ∧ Answered ready 7 := ⟨by decide, rfl, rfl, [], rfl⟩

/-- For the statements whose one hypothesis on the parameters is R7: ExpanderByteInjective, DataStableAroundEnable,
and, with an expansion without a raw nibble, ReceiverReadsWordsBack. -/
theorem witness_masks :
    Params.spec.wfMasks = true ∧ noRaw [.xfer false 0x01#8, .delay 3000, .xfer true 0x41#8] = true := by decide

/-- The two answers an operation can have: accepted and turned away. -/
theorem witness_TransactionCounts :
    Ready ready ∧ Instr.init.isRequest = true ∧ view (fun t => t.verdict) (exec .init ready) = some none ∧
      view (fun t => t.verdict) (exec (.setCursor 0#8 0#8) ready) = some (some .request) ∧ ready.cfg.tCmd = 0 := ⟨ready_ready, by decide⟩

theorem witness_MessageIsSetCursorThenPutString :
    Ready ready ∧ ready.numLines.toNat ≤ 4 ∧ 1 ≤ (4#8 : Byte).toNat ∧ (4#8 : Byte).toNat ≤ ready.numLines.toNat ∧
      ready.cfg.newline ∉ [0x41#8, 0x42#8] := ⟨ready_ready, by decide⟩

theorem witness_TogglesIdempotent :
    Ready ready ∧
      Instr.autoscroll ∈
        [Instr.display, .noDisplay, .cursor, .noCursor, .blink, .noBlink, .ltr, .rtl, .autoscroll, .noAutoscroll] :=
  ⟨ready_ready, by decide⟩

/-- The register with the bit clear before, as the last clauses ask. -/
theorem witness_TogglesRoundTrip :
    Ready ready ∧ ready.dctl &&& ready.cfg.cursorOn = 0#8 ∧ ready.emode &&& ready.cfg.shiftIncrement = 0#8 :=
  ⟨ready_ready, by decide⟩

theorem witness_RowBeyondLinesIsClamped :
    Ready ready ∧ 1 ≤ ready.numLines.toNat ∧ ready.numLines.toNat ≤ 4 ∧ (1#8 : Byte) ≠ 0#8 ∧
      ready.numLines.toNat < (5#8 : Byte).toNat ∧ ready.numLines.toNat < (255#8 : Byte).toNat :=
  ⟨ready_ready, by decide⟩

theorem witness_SettleTimeIsWaitedOut : State.reset.env.busyTime = 0 := rfl

/-- No failure, and a failure between the two pulses and at the release. -/
theorem witness_NibblePhaseAfterWord :
    let s := sending true 0xA5#8 .idle 0x00#8
    (Instr.twData 0xA5#8).isRequest = false ∧ encode (.twData 0xA5#8) = .word (BitVec.ofBool true ++ 0xA5#8) ∧
      s.cfg.wfMasks = true ∧ s.rst = none ∧ s.running = true ∧ s.current = some (.xfer true 0xA5#8) ∧
      s.env.expLatch &&& s.cfg.enBit = 0#8 ∧ s.answers = List.replicate 7 .ok ++ [] ∧
      ({ s with answers := List.replicate 3 .ok ++ [.error false false] } : State).answers =
        List.replicate 3 .ok ++ .error false false :: [] ∧
      ({ s with answers := List.replicate 6 .ok ++ [.error false false] } : State).answers =
        List.replicate 6 .ok ++ .error false false :: [] := by decide

/-- The EN-cleared write that the transport answers, one it fails, a release it fails, and a raw nibble it fails. -/
theorem witness_LatchedCommandOwesItsWait :
    let s := sending false 0x01#8 .loEn0 0x1C#8
    let u := sending false 0x02#8 .release 0x28#8
    let r := sendingRaw .hiEn0 0x2C#8
    (s.rst = none ∧ s.running = true ∧ s.settle = 0 ∧ s.current = some (.xfer false 0x01#8) ∧
        0x01#8 = s.cfg.clearDisplay ∧ s.ph = .loEn0 ∧ s.answers = .ok :: List.replicate 6 .ok) ∧
      ({ s with answers := [.error false true] } : State).answers = .error false true :: [] ∧
      (u.rst = none ∧ u.running = true ∧ u.settle = 0 ∧ u.current = some (.xfer false 0x02#8) ∧
        0x02#8 = u.cfg.returnHome ∧ u.ph = .release ∧
        ({ u with answers := [.error true false] } : State).answers = .error true false :: []) ∧
      (r.rst = none ∧ r.running = true ∧ r.settle = 0 ∧ r.current = some (.raw 0x2#4) ∧ r.ph = .hiEn0 ∧
        ({ r with answers := [.error true true] } : State).answers = .error true true :: []) := by decide

theorem witness_PowerUpFlagIsOneTime :
    (ready.rst = none ∧ ready.pwrup = false ∧ ∃ t, step ready = .next t) ∧ Ready { ready with pwrup := true } :=
  ⟨⟨rfl, rfl, _, rfl⟩, ready_powerUp⟩

theorem witness_UnspecifiedLatchesAreUnobservable :
    (ready.present [0x12#8, 0x41#8, 0x00#8]).ph = .idle ∧
      ∃ t, runSteps 3 (ready.present [0x12#8, 0x41#8, 0x00#8]) = .next t := ⟨rfl, _, rfl⟩

theorem witness_EveryOperationEnds :
    let s := sending false 0x28#8 .hiEn1 0x28#8
    Inv s ∧ s.rst = none ∧ s.running = true ∧ writeCount s.expansion ≤ s.answers.length := ⟨sending_inv, by decide⟩

/-- One state for each clause: a write that succeeds, one that fails, and a step that writes nothing. -/
theorem witness_WritesAloneReachTheExpander :
    let s := sending true 0x41#8 .hiEn1 0x49#8
    let u := { s with answers := [.error true false] }
    s.rst = none ∧ view (fun t => (t.trace, t.port, t.env.expLatch)) (step s) = some ([.write 0x4D#8], 0x4D#8, 0x4D#8) ∧
      u.rst = none ∧
      view (fun t => (t.trace, t.port, t.env.expLatch)) (step u) = some ([.writeFail 0x4D#8], 0x49#8, 0x4D#8) ∧
      ready.rst = none ∧
      view (fun t => (t.trace, t.port, t.env.expLatch)) (step ready) = some ([], ready.port, ready.env.expLatch) := by
  decide

end Sys2Proof.Tests
end

section
/-! PROOFS. Single steps: the acceptance of a request, its completion, and the wait or the write of a phase. -/

namespace Sys2Proof.Machine

/-- R54, R73: a step whose stream holds a reserved request turns it away. -/
theorem step_reserved {s : State} {why : Reserved} {rest : List Byte} (h : s.rst = none) (hr : s.running = false)
    (hd : decodeRequest (s.rx ++ s.reqIn) = .reserved why rest) :
    step s =
      .next (({ s with rx := [], reqIn := rest } : State).reject (if s.fault then .transport else .request)) := by
  rw [step_receive h hr, receive, hd]
  cases s.fault <;> rfl

/-- R5, R175: an idle sequencer whose expansion is exhausted makes the completion. -/
theorem step_complete {s : State} (h : s.rst = none) (hr : s.running = true) (hp : s.ph = .idle)
    (hc : s.current = none) : step s = .next s.complete := by
  rw [step_running h hr, sequence_idle hp, startItem, hc]

/-- R5, R139: the step after a request is turned away is the completion that reports its error. -/
theorem step_reject {s : State} (h : s.rst = none) (hx : s.rx = []) (e : ErrorKind) :
    step (s.reject e) = .next ((s.reject e).raise e) := by
  have hr : (s.reject e).running = true := by simp [State.running, hx]
  rw [step_complete (s := s.reject e) h hr rfl rfl, complete_rejected rfl]

/-- R5, R17: outside `IDLE` a step is the wait or the port write of the phase. -/
theorem step_phase {s : State} (h : s.rst = none) (hr : s.running = true) (hp : s.ph ≠ .idle) :
    step s = .next s.phaseEvent := by
  rw [step_running h hr, sequence_phase hp]

/-- R83: a wait that a write owes is the next event. -/
theorem step_wait {s : State} (h : s.rst = none) (hr : s.running = true) (hp : s.ph ≠ .idle) (hw : s.settle ≠ 0) :
    step s = .next s.settleWait := by
  rw [step_phase h hr hp, State.phaseEvent, if_neg hw]

/-- R83: with nothing to wait for, the write is the next event. -/
theorem step_write {s : State} (h : s.rst = none) (hr : s.running = true) (hp : s.ph ≠ .idle) (hw : s.settle = 0) :
    step s = .next s.phaseWrite := by
  rw [step_phase h hr hp, State.phaseEvent, if_pos hw]

/-! R139: turning a request away and completing a request leave the surroundings alone. -/

theorem sameSurroundings_reject (s : State) (e : ErrorKind) : SameSurroundings s (s.reject e) := by
  constructor <;> rfl

theorem sameSurroundings_raise (s : State) (e : ErrorKind) : SameSurroundings s (s.raise e) := by
  constructor <;> rfl

theorem sameSurroundings_succeed (s : State) : SameSurroundings s s.succeed := by
  constructor <;> rfl

/-- R18: the acceptance of a request turned away raises `BUSY`, the only output it changes. -/
theorem outputs_reject (s : State) (e : ErrorKind) : (s.reject e).outputs = { s.outputs with busy := true } := rfl

/-- R139: the outputs an error changes. -/
theorem outputs_raise (s : State) (e : ErrorKind) :
    (s.raise e).outputs =
      { s.outputs with busy := false, status := e.status.code, fault := s.fault || e.setsFault } := rfl

/-- Settles O14: with no operation running a step is the request port's, which runs what it decodes. -/
theorem stepRunsDecodedRequest : Obligations.StepRunsDecodedRequest := by
  intro s i rest h hr hd
  rw [step_receive h hr, receive, hd]

/-- Settles O18: the step is `reject`, and the next one `raise` with the error chosen at acceptance. -/
theorem reservedRequestIsRejected : Obligations.ReservedRequestIsRejected := by
  intro s why rest h hr hd
  let s₀ : State := { s with rx := [], reqIn := rest }
  refine ⟨_, _, step_reserved h hr hd, outputs_reject s₀ _, rfl, rfl, rfl, sameSurroundings_reject s₀ _,
    step_reject (s := s₀) h rfl _, ?_, rfl, rfl, rfl, ?_⟩
  · rw [outputs_raise, outputs_reject]
    cases hf : s.fault <;> simp [State.outputs, s₀, hf, ErrorKind.status, ErrorKind.setsFault, Status.code]
  · constructor <;> rfl

/-- Settles O41: outside `IDLE` the event of a phase with a wait owed is that wait. -/
theorem owedWaitPrecedesWrite : Obligations.OwedWaitPrecedesWrite := by
  intro s h hr hp hw
  rw [step_wait h hr hp hw, State.settleWait, delay_pos s hw]
  rfl

/-- Settles O42: the step is `complete`, which is `succeed` or, with a verdict, `raise`. -/
theorem completionIsOneEvent : Obligations.CompletionIsOneEvent := by
  intro s h hr hp hc
  rw [step_complete h hr hp hc]
  refine ⟨_, rfl, ?_⟩
  cases hv : s.verdict with
  | none =>
    rw [complete_running hv]
    exact ⟨rfl, rfl, rfl, rfl, rfl, sameSurroundings_succeed s, rfl, by simp, rfl⟩
  | some e =>
    rw [complete_rejected hv]
    refine ⟨rfl, rfl, rfl, rfl, rfl, sameSurroundings_raise s e, ?_, ?_, rfl⟩ <;>
      cases e <;> simp [ErrorKind.status, ErrorKind.setsFault, Status.code]

end Sys2Proof.Machine
end

section
/-! PROOFS. A run of one phase, and of the three phases of a nibble, when the transport answers every write with
success. -/

namespace Sys2Proof.Machine

/-- The state after events that all succeed: `PORT` holds the last byte written, each write has taken one answer of
the transport, and the environment has seen every event. -/
def State.emitAll (s : State) (es : List Event) : State :=
  { s with
    port := lastWrite s.port es
    answers := s.answers.drop (writesOf es).length
    env := es.foldl (Env.after s.cfg) s.env
    trace := s.trace ++ es }

@[simp] theorem emitAll_cfg (s : State) (es : List Event) : (s.emitAll es).cfg = s.cfg := rfl
@[simp] theorem emitAll_current (s : State) (es : List Event) : (s.emitAll es).current = s.current := rfl
@[simp] theorem emitAll_port (s : State) (es : List Event) : (s.emitAll es).port = lastWrite s.port es := rfl
@[simp] theorem emitAll_answers (s : State) (es : List Event) :
    (s.emitAll es).answers = s.answers.drop (writesOf es).length := rfl

/-- R30: `PORT` over two stretches of events. -/
@[simp] theorem lastWrite_append (b : Byte) (es fs : List Event) :
    lastWrite b (es ++ fs) = lastWrite (lastWrite b es) fs := by
  simp [lastWrite, List.getLast?_append]

@[simp] theorem lastWrite_waitEvents (b : Byte) (t : Nat) : lastWrite b (waitEvents t) = b := by
  simp [lastWrite]

@[simp] theorem lastWrite_write (b c : Byte) : lastWrite b [.write c] = c := rfl

@[simp] theorem emitAll_nil (s : State) : s.emitAll [] = s := by
  simp [State.emitAll, lastWrite, writesOf]

@[simp] theorem emitAll_emitAll (s : State) (es fs : List Event) :
    (s.emitAll es).emitAll fs = s.emitAll (es ++ fs) := by
  simp [State.emitAll]

/-- R40: the answers that are left after some writes. -/
theorem Answered.emitAll {s : State} {es : List Event} {n : Nat} (h : Answered s ((writesOf es).length + n)) :
    Answered (s.emitAll es) n := by
  obtain ⟨rest, h⟩ := h
  refine ⟨rest, ?_⟩
  rw [emitAll_answers, h, List.replicate_add, List.append_assoc, List.drop_left' List.length_replicate]

/-- R40: fewer writes than the transport answers. -/
theorem Answered.left {s : State} {m n : Nat} (h : Answered s (m + n)) : Answered s m := by
  obtain ⟨rest, h⟩ := h
  exact ⟨List.replicate n .ok ++ rest, by rw [h, List.replicate_add, List.append_assoc]⟩

/-- R40: the answer the next write gets. -/
theorem Answered.head {s : State} {n : Nat} (h : Answered s (n + 1)) : ∃ rest, s.answers = .ok :: rest := by
  obtain ⟨rest, h⟩ := h
  exact ⟨_, by rw [h, List.replicate_succ, List.cons_append]⟩

/-- R41: a delay is its events (R88). -/
theorem delay_eq_emitAll (s : State) (t : Nat) : s.delay t = s.emitAll (waitEvents t) := by
  by_cases ht : t = 0
  · subst ht
    rw [delay_zero]
    exact (emitAll_nil s).symm
  · rw [delay_pos s ht, waitEvents, if_neg ht]
    rfl

/-- R17, R40: a port write that succeeds is one event, and the phase advances. -/
theorem phaseWrite_ok {s : State} {rest : List Answer} (h : s.answers = .ok :: rest) :
    s.phaseWrite = (s.emitAll [.write s.phaseByte]).advance := by
  have hw : ({ s with answers := rest } : State).portWrite s.phaseByte = s.emitAll [.write s.phaseByte] := by
    simp [State.portWrite, State.emit, State.emitAll, lastWrite, writesOf, Env.after, h]
  rw [← hw]
  simp only [State.phaseWrite, h]

/-- R17: a state with the sequencer in the phase `ph`, whose write has nothing to wait for any more. -/
def State.atPhase (s : State) (ph : Phase) : State := { s with ph := ph, settle := 0 }

/-- R83: the wait a phase owes its write takes as many steps as it is events. -/
theorem settle_runs {s : State} {ph : Phase} (h : s.rst = none) (hr : s.running = true) (hp : ph ≠ .idle) :
    runSteps (waitEvents (settleBefore s.cfg ph)).length (s.nextPhase ph) =
      .next ((s.emitAll (waitEvents (settleBefore s.cfg ph))).atPhase ph) := by
  by_cases hw : settleBefore s.cfg ph = 0
  · simp [State.nextPhase, State.atPhase, waitEvents, hw]
  · have hs : step (s.nextPhase ph) = .next (s.nextPhase ph).settleWait := step_wait (s := s.nextPhase ph) h hr hp hw
    have hl : (waitEvents (settleBefore s.cfg ph)).length = 0 + 1 := by simp [waitEvents, hw]
    rw [hl, runSteps_succ hs, runSteps_zero, State.settleWait, delay_eq_emitAll]
    rfl

/-- R17, R83: a phase whose write succeeds: its wait, its write, the advance. -/
theorem phase_runs {s : State} {ph : Phase} {n : Nat} (h : s.rst = none) (hr : s.running = true) (hp : ph ≠ .idle)
    (ha : Answered s (n + 1)) :
    runSteps ((waitEvents (settleBefore s.cfg ph)).length + 1) (s.nextPhase ph) =
      .next ((s.emitAll
        (waitEvents (settleBefore s.cfg ph) ++ [.write (s.atPhase ph).phaseByte])).atPhase ph).advance := by
  let t := (s.emitAll (waitEvents (settleBefore s.cfg ph))).atPhase ph
  have ht : Answered t (n + 1) := Answered.emitAll (es := waitEvents _) (by simpa using ha)
  obtain ⟨rest, hrest⟩ := ht.head
  have hb : t.phaseByte = (s.atPhase ph).phaseByte := by
    simp only [State.phaseByte, t, State.atPhase, State.emitAll, lastWrite_waitEvents]
    rfl
  have hs : step t = .next (t.emitAll [.write (s.atPhase ph).phaseByte]).advance := by
    rw [step_write (s := t) h hr hp rfl, phaseWrite_ok hrest, hb]
  rw [runSteps_add (settle_runs h hr hp), runSteps_succ hs, runSteps_zero, ← emitAll_emitAll]
  rfl

/-- R34(c): the controller has latched the whole item. -/
def State.owing (s : State) : State := { s with env := s.owed }

/-! R17: where a successful write leads from each phase. -/

theorem advance_loEn0 (s : State) : (s.atPhase .loEn0).advance = s.owing.nextPhase .release := rfl

theorem advance_release (s : State) : (s.atPhase .release).advance = s.nextItem := rfl

/-- R87: a raw item ends after its pulse, any other goes on to the low nibble. -/
theorem advance_hiEn0 {s : State} {it : Item} (hc : s.current = some it) :
    (s.atPhase .hiEn0).advance =
      match it with
      | .raw _ => s.nextItem
      | .xfer _ _ | .delay _ => s.nextPhase .loData := by
  have hc' : (s.atPhase .hiEn0).current = some it := hc
  simp only [State.advance, State.atPhase] at hc' ⊢
  rw [hc']
  cases it <;> rfl

/-- R15, R16: the three phases of a nibble: its data write, and the two writes of its pulse. -/
def Half.dataPhase : Half → Phase
  | .high => .hiData
  | .low => .loData

def Half.setPhase : Half → Phase
  | .high => .hiEn1
  | .low => .loEn1

def Half.clearPhase : Half → Phase
  | .high => .hiEn0
  | .low => .loEn0

/-- R82, R87: the data byte of a nibble of the current item. -/
def State.dataByte (s : State) (h : Half) : Byte := (s.atPhase h.dataPhase).phaseByte

theorem advance_dataPhase (s : State) (h : Half) : (s.atPhase h.dataPhase).advance = s.nextPhase h.setPhase := by
  cases h <;> rfl

theorem advance_setPhase (s : State) (h : Half) : (s.atPhase h.setPhase).advance = s.nextPhase h.clearPhase := by
  cases h <;> rfl

theorem settleBefore_setPhase (p : Params) (h : Half) : settleBefore p h.setPhase = p.tSu := by cases h <;> rfl

theorem settleBefore_clearPhase (p : Params) (h : Half) : settleBefore p h.clearPhase = p.tPw := by cases h <;> rfl

theorem phaseByte_setPhase (s : State) (h : Half) : (s.atPhase h.setPhase).phaseByte = withEn s.cfg s.port := by
  cases h <;> rfl

theorem phaseByte_clearPhase (s : State) (h : Half) : (s.atPhase h.clearPhase).phaseByte = withoutEn s.cfg s.port := by
  cases h <;> rfl

theorem Half.phases_ne_idle (h : Half) : h.dataPhase ≠ .idle ∧ h.setPhase ≠ .idle ∧ h.clearPhase ≠ .idle := by
  cases h <;> decide

/-- R82, R83: the three phases of a nibble whose writes succeed make its strobe, up to the last advance. -/
theorem strobe_runs {s : State} (half : Half) {n : Nat} (h : s.rst = none) (hr : s.running = true)
    (hen : EnClear s.cfg (s.dataByte half)) (ha : Answered s (3 + n)) :
    runSteps ((waitEvents (settleBefore s.cfg half.dataPhase)).length + (3 + strobeWaits s.cfg))
        (s.nextPhase half.dataPhase) =
      .next ((s.emitAll (waitEvents (settleBefore s.cfg half.dataPhase) ++
        strobeEvents s.cfg (s.dataByte half))).atPhase half.clearPhase).advance := by
  obtain ⟨hd, hs, hc⟩ := half.phases_ne_idle
  let b := s.dataByte half
  let s₁ := s.emitAll (waitEvents (settleBefore s.cfg half.dataPhase) ++ [.write b])
  let s₂ := s₁.emitAll (waitEvents s.cfg.tSu ++ [.write (withEn s.cfg b)])
  have h₁ : runSteps ((waitEvents (settleBefore s.cfg half.dataPhase)).length + 1) (s.nextPhase half.dataPhase) =
      .next (s₁.nextPhase half.setPhase) := by
    rw [phase_runs h hr hd (n := 2 + n) (by rwa [Nat.add_right_comm]), advance_dataPhase]
    rfl
  have ha₁ : Answered s₁ (2 + n) := Answered.emitAll (by simpa [writesOf, ← Nat.add_assoc] using ha)
  have hp₁ : s₁.port = b := by simp [s₁]
  have h₂ : runSteps ((waitEvents s.cfg.tSu).length + 1) (s₁.nextPhase half.setPhase) =
      .next (s₂.nextPhase half.clearPhase) := by
    have := phase_runs (s := s₁) h hr hs (n := 1 + n) (by rwa [Nat.add_right_comm])
    rw [settleBefore_setPhase, phaseByte_setPhase, advance_setPhase, hp₁] at this
    exact this
  have ha₂ : Answered s₂ (1 + n) := Answered.emitAll (by simpa [writesOf, ← Nat.add_assoc] using ha₁)
  have h₃ : runSteps ((waitEvents s.cfg.tPw).length + 1) (s₂.nextPhase half.clearPhase) =
      .next ((s₂.emitAll (waitEvents s.cfg.tPw ++ [.write b])).atPhase half.clearPhase).advance := by
    have := phase_runs (s := s₂) h hr hc (n := n) (by rwa [Nat.add_comm])
    rw [settleBefore_clearPhase, phaseByte_clearPhase] at this
    have hp : withoutEn s₂.cfg s₂.port = b := by
      rw [show s₂.port = withEn s.cfg b by simp [s₂]]
      exact withoutEn_withEn hen
    rw [hp] at this
    exact this
  have hn : (waitEvents (settleBefore s.cfg half.dataPhase)).length + (3 + strobeWaits s.cfg) =
      (waitEvents (settleBefore s.cfg half.dataPhase)).length + 1 +
        ((waitEvents s.cfg.tSu).length + 1 + ((waitEvents s.cfg.tPw).length + 1)) := by
    unfold strobeWaits; omega
  rw [hn, runSteps_add h₁, runSteps_add h₂, h₃]
  simp [s₂, s₁, b, strobeEvents, withEn]

/-- R82, R87: the strobe of the high nibble, or of the raw one, before which there is no wait. -/
theorem strobe_high_runs {s : State} {n : Nat} (h : s.rst = none) (hr : s.running = true)
    (hen : EnClear s.cfg s.hiDataByte) (ha : Answered s (3 + n)) :
    runSteps (3 + strobeWaits s.cfg) (s.nextPhase .hiData) =
      .next ((s.emitAll (strobeEvents s.cfg s.hiDataByte)).atPhase .hiEn0).advance := by
  have hrun := strobe_runs .high h hr hen ha
  rwa [show waitEvents (settleBefore s.cfg Half.high.dataPhase) = [] from rfl, List.length_nil, Nat.zero_add] at hrun

/-- R82: the strobe of the low nibble, after which the controller has the word. -/
theorem strobe_low_runs {s : State} {n : Nat} (h : s.rst = none) (hr : s.running = true)
    (hen : EnClear s.cfg (loByte s.cfg s.rsl s.bl s.w)) (ha : Answered s (3 + n)) :
    runSteps ((waitEvents s.cfg.tH).length + (3 + strobeWaits s.cfg)) (s.nextPhase .loData) =
      .next ((s.emitAll (waitEvents s.cfg.tH ++ strobeEvents s.cfg (loByte s.cfg s.rsl s.bl s.w))).owing.nextPhase
        .release) :=
  (strobe_runs .low h hr hen ha).trans (congrArg _ (advance_loEn0 _))

end Sys2Proof.Machine
end

section
/-! PROOFS. A run of one item of an expansion whose writes all succeed. -/

namespace Sys2Proof.Machine

/-- R80: the start of a word transfer latches its operands and is the step of the phase `HI_DATA`. -/
theorem step_startXfer {s : State} {rs : Bool} {w : Byte} (h : s.rst = none) (hr : s.running = true) (hp : s.ph = .idle)
    (hc : s.current = some (.xfer rs w)) :
    step s = step (({ s with w := w, rsl := rs } : State).nextPhase .hiData) := by
  have hs : step (({ s with w := w, rsl := rs } : State).nextPhase .hiData) = .next (s.beginXfer rs w) :=
    step_write h hr (by simp [State.nextPhase]) rfl
  rw [hs, step_running h hr, sequence_idle hp, startItem, hc]
  exact startWord_eq rs w s

/-- R87: the start of a raw nibble is the step of the phase `HI_DATA`. -/
theorem step_startRaw {s : State} {n : Nibble} (h : s.rst = none) (hr : s.running = true) (hp : s.ph = .idle)
    (hc : s.current = some (.raw n)) : step s = step (s.nextPhase .hiData) := by
  have hs : step (s.nextPhase .hiData) = .next s.beginRaw :=
    step_write h hr (by simp [State.nextPhase]) rfl
  rw [hs, step_running h hr, sequence_idle hp, startItem, hc]

/-- Two states that step alike run alike. -/
theorem runSteps_congr {s t : State} (h : step s = step t) {n : Nat} (hn : 0 < n) : runSteps n s = runSteps n t := by
  obtain ⟨m, rfl⟩ := Nat.exists_eq_add_one_of_ne_zero hn.ne'
  simp only [runSteps, h]

/-- R34(c): what is owed is a least busy time that depends on the item only. -/
theorem owe_eq (p : Params) (it : Item) : ∃ k, ∀ e : Env, e.owe p it = { e with busyTime := max e.busyTime k } := by
  cases it with
  | xfer rs w => exact ⟨_, fun _ => rfl⟩
  | raw n => exact ⟨_, fun _ => rfl⟩
  | delay t => exact ⟨0, fun e => by simp [Env.owe]⟩

/-- R34(c): two environments that agree once the item's wait is owed still do so after the same event. -/
theorem owe_after_congr {p : Params} {it : Item} {e f : Env} (h : e.owe p it = f.owe p it) (ev : Event) :
    (e.after p ev).owe p it = (f.after p ev).owe p it := by
  obtain ⟨k, hk⟩ := owe_eq p it
  rw [hk, hk, Env.mk.injEq] at h
  obtain ⟨hx, hc, hb⟩ := h
  cases ev with
  | write b => simp [hk, Env.after, Env.take, hx, hc, hb]
  | writeFail b => simp [hk, Env.after, hx, hc, hb]
  | delay t =>
    simp only [hk, Env.after, Env.wait, hx, hc, Env.mk.injEq, true_and]
    omega

/-- R34(c): and so after the same events. -/
theorem owe_foldl_congr {p : Params} {it : Item} {e f : Env} (h : e.owe p it = f.owe p it) (es : List Event) :
    (es.foldl (Env.after p) e).owe p it = (es.foldl (Env.after p) f).owe p it := by
  induction es generalizing e f with
  | nil => exact h
  | cons ev es ih => exact ih (owe_after_congr h ev)

/-- R34(c), R161: owing an item's wait before some events and again after them is owing it after them. -/
theorem owe_foldl_owe (p : Params) (it : Item) (e : Env) (es : List Event) :
    (es.foldl (Env.after p) (e.owe p it)).owe p it = (es.foldl (Env.after p) e).owe p it := by
  obtain ⟨k, hk⟩ := owe_eq p it
  exact owe_foldl_congr (by simp [hk]) es

/-- R80, R14: the latches once the item has started. -/
def State.latch (s : State) : Item → State
  | .xfer rs w => { s with w := w, rsl := rs }
  | .raw _ | .delay _ => s

/-- The state in which an item that succeeds ends. -/
def State.endItem (s : State) (it : Item) : State := ((s.latch it).emitAll (it.events s.cfg s.bl)).nextItem

@[simp] theorem latch_current (s : State) (it : Item) : (s.latch it).current = s.current := by cases it <;> rfl

/-- R17: the end of the current item. -/
theorem nextItem_eq {s : State} {it : Item} (hc : s.current = some it) :
    s.nextItem = { s with ph := .idle, item := s.item + 1, settle := 0, env := s.env.owe s.cfg it } := by
  simp [State.nextItem, State.owed, hc]

/-- R88: a delay item is one step. -/
theorem delay_runs {s : State} {t : Nat} (h : s.rst = none) (hr : s.running = true) (hp : s.ph = .idle)
    (hc : s.current = some (.delay t)) : step s = .next (s.endItem (.delay t)) := by
  rw [step_running h hr, sequence_idle hp, startItem, hc]
  simp only [State.delayItem, delay_eq_emitAll]
  rfl

/-- R87: a raw nibble whose writes succeed. -/
theorem raw_runs {s : State} {n : Nibble} (hwf : s.cfg.wfMasks = true) (h : s.rst = none) (hr : s.running = true)
    (hp : s.ph = .idle) (hc : s.current = some (.raw n)) (ha : Answered s 3) :
    runSteps (3 + strobeWaits s.cfg) s = .next (s.endItem (.raw n)) := by
  have hb : s.hiDataByte = rawByte s.cfg s.bl n := by simp [State.hiDataByte, hc]
  have hrun := strobe_high_runs h hr (hb ▸ rawByte_enClear hwf s.bl n) (n := 0) ha
  rw [runSteps_congr (step_startRaw h hr hp hc) (by omega), hrun, hb]
  exact congrArg _ (advance_hiEn0 (s := s.emitAll _) (it := .raw n) hc)

/-- R34(c): what has been owed before the last events of an item makes no difference at its end. -/
theorem nextItem_owed {s : State} {it : Item} (hc : s.current = some it) (es : List Event) :
    (s.owing.emitAll es).nextItem = (s.emitAll es).nextItem := by
  have ho : s.owed = s.env.owe s.cfg it := by simp [State.owed, hc]
  rw [nextItem_eq (s := s.owing.emitAll es) hc, nextItem_eq (s := s.emitAll es) hc]
  simp only [State.emitAll, State.owing, ho, owe_foldl_owe]

/-- R82: a word transfer whose writes succeed. -/
theorem xfer_runs {s : State} {rs : Bool} {w : Byte} (hwf : s.cfg.wfMasks = true) (h : s.rst = none)
    (hr : s.running = true) (hp : s.ph = .idle) (hc : s.current = some (.xfer rs w)) (ha : Answered s 7) :
    runSteps (Item.steps s.cfg (.xfer rs w)) s = .next (s.endItem (.xfer rs w)) := by
  let b := s.latch (.xfer rs w)
  let hi := strobeEvents s.cfg (hiByte s.cfg rs s.bl w)
  let lo := waitEvents s.cfg.tH ++ strobeEvents s.cfg (loByte s.cfg rs s.bl w)
  let rel := waitEvents s.cfg.tH ++ [.write (releaseByte s.cfg s.bl)]
  have hb : b.hiDataByte = hiByte s.cfg rs s.bl w := by
    simp only [State.hiDataByte, b, latch_current, hc]
    rfl
  have hab : Answered b 7 := ha
  have hHi : runSteps (3 + strobeWaits s.cfg) s = .next ((b.emitAll hi).nextPhase .loData) := by
    have hrun := strobe_high_runs (s := b) h hr (hb ▸ hiByte_enClear hwf rs s.bl w) (n := 4) ha
    rw [hb] at hrun
    rw [runSteps_congr (step_startXfer h hr hp hc) (by omega)]
    exact hrun.trans (congrArg _ (advance_hiEn0 (s := b.emitAll hi) (it := .xfer rs w) hc))
  have ha₁ : Answered (b.emitAll hi) 4 := Answered.emitAll (s := b) (by simpa [hi] using hab)
  have hLo : runSteps ((waitEvents s.cfg.tH).length + (3 + strobeWaits s.cfg)) ((b.emitAll hi).nextPhase .loData) =
      .next (((b.emitAll hi).emitAll lo).owing.nextPhase .release) :=
    strobe_low_runs (s := b.emitAll hi) (n := 1) h hr (loByte_enClear hwf rs s.bl w) ha₁
  have ha₂ : Answered ((b.emitAll hi).emitAll lo) 1 := Answered.emitAll (by simpa [lo] using ha₁)
  have hRel : runSteps ((waitEvents s.cfg.tH).length + 1) (((b.emitAll hi).emitAll lo).owing.nextPhase .release) =
      .next (((b.emitAll hi).emitAll lo).emitAll rel).nextItem :=
    (phase_runs (s := ((b.emitAll hi).emitAll lo).owing) (ph := .release) (n := 0) h hr (by decide) ha₂).trans
      (congrArg _ ((advance_release _).trans (nextItem_owed (s := (b.emitAll hi).emitAll lo) (it := .xfer rs w) hc _)))
  have hn : Item.steps s.cfg (.xfer rs w) = 3 + strobeWaits s.cfg +
      ((waitEvents s.cfg.tH).length + (3 + strobeWaits s.cfg) + ((waitEvents s.cfg.tH).length + 1)) := by
    simp only [Item.steps]; omega
  rw [hn, runSteps_add hHi, runSteps_add hLo, hRel]
  simp [State.endItem, Item.events, hi, lo, rel, b]

/-- R79, R82, R87, R88: any item whose writes succeed. -/
theorem item_runs {s : State} {it : Item} (hwf : s.cfg.wfMasks = true) (h : s.rst = none) (hr : s.running = true)
    (hp : s.ph = .idle) (hc : s.current = some it) (ha : Answered s it.writes) :
    runSteps (it.steps s.cfg) s = .next (s.endItem it) := by
  cases it with
  | xfer rs w => exact xfer_runs hwf h hr hp hc ha
  | raw n => exact raw_runs hwf h hr hp hc ha
  | delay t => exact runSteps_succ (n := 0) (delay_runs h hr hp hc)

end Sys2Proof.Machine
end

section
/-! PROOFS. The sequencer's steps against the item-by-item reading of an expansion (`State.finish`). -/

namespace Sys2Proof.Machine

/-- A running expansion at its item `k`. -/
def State.atItem (s : State) (items : List Item) (k : Nat) : State := { s.launch items with item := k }

/-- The writes of an item's events are those the rules count (R92). -/
@[simp] theorem length_writesOf_events (p : Params) (bl : Bool) (it : Item) :
    (writesOf (it.events p bl)).length = it.writes := by
  cases it <;> simp [Item.events, Item.writes, writesOf]

/-- The item-by-item reading of an item (`State.afterItem`) is its latches, its events, and the wait owed. -/
theorem afterItem_eq (s : State) (it : Item) :
    s.afterItem it =
      { (s.latch it).emitAll (it.events s.cfg s.bl) with
        env := ((s.latch it).emitAll (it.events s.cfg s.bl)).env.owe s.cfg it } := by
  cases it <;>
    simp [State.afterItem, State.latch, State.emitAll, Item.events, Item.writes, writesOf, strobeEvents, lastWrite]

/-- R17: a running expansion's item ends with the item's effect, and the sequencer at the next item. -/
theorem endItem_atItem {s : State} {items : List Item} {k : Nat} {it : Item} (hc : items[k]? = some it) :
    (s.atItem items k).endItem it = (s.afterItem it).atItem items (k + 1) := by
  have hc' : (((s.atItem items k).latch it).emitAll (it.events s.cfg s.bl)).current = some it := by
    rw [emitAll_current, latch_current]
    exact hc
  rw [afterItem_eq, State.endItem]
  refine (nextItem_eq hc').trans ?_
  cases it <;> rfl

theorem Answered.afterItem {s : State} {it : Item} {n : Nat} (h : Answered s (it.writes + n)) :
    Answered (s.afterItem it) n := by
  rw [afterItem_eq]
  have hl : Answered (s.latch it) (it.writes + n) := by cases it <;> exact h
  exact Answered.emitAll (s := s.latch it) (by simpa using hl)

/-- R79, R175: from its item `k` on, an expansion whose writes succeed runs item by item and completes. -/
theorem expansion_runs {s : State} {all items : List Item} {k : Nat} (hwf : s.cfg.wfMasks = true) (h : s.rst = none)
    (hx : s.rx = []) (hk : all.drop k = items) (ha : Answered s (writeCount items)) :
    runSteps (stepCount s.cfg items) (s.atItem all k) = .next (s.finish items) := by
  have hr : (s.atItem all k).running = true := by simp [State.running, State.atItem, hx]
  induction items generalizing s k with
  | nil =>
    have hc : (s.atItem all k).current = none := List.getElem?_eq_none (List.drop_eq_nil_iff.mp hk)
    exact runSteps_succ (n := 0) ((step_complete (s := s.atItem all k) h hr rfl hc).trans
      (congrArg _ (complete_running (s := s.atItem all k) rfl)))
  | cons it items ih =>
    have hc : all[k]? = some it := by rw [← List.head?_drop, hk]; rfl
    have hn : stepCount s.cfg (it :: items) = it.steps s.cfg + stepCount s.cfg items := by
      simp [stepCount, Nat.add_assoc]
    have ha' : Answered s (it.writes + writeCount items) := by simpa [writeCount] using ha
    have hitem : runSteps (it.steps s.cfg) (s.atItem all k) = .next ((s.afterItem it).atItem all (k + 1)) := by
      have hat : Answered (s.atItem all k) it.writes := ha'.left
      exact (item_runs (s := s.atItem all k) hwf h hr rfl hc hat).trans (congrArg _ (endItem_atItem hc))
    rw [hn, runSteps_add hitem]
    have hk' : all.drop (k + 1) = items := by rw [← List.tail_drop, hk]; rfl
    exact ih (s := s.afterItem it) hwf h hx hk' ha'.afterItem hr

/-- Settles O37: a launched expansion is one at item 0, and it runs by induction on its items. -/
theorem sequencerExecutesExpansion : Obligations.SequencerExecutesExpansion := by
  intro s items hwf h hx ha
  exact expansion_runs (all := items) hwf h hx rfl ha

end Sys2Proof.Machine
end

section
/-! PROOFS. What a step can do, as relations, and what the steps of a running operation leave alone. -/

namespace Sys2Proof.Machine

/-- R5, R79: every event of a running operation. A started item is in `HI_DATA` with its write to make. -/
inductive Runs (s : State) : State → Prop
  | startXfer (rs : Bool) (w : Byte) (hph : s.ph = .idle) (hcur : s.current = some (.xfer rs w)) :
      Runs s (({ s with w := w, rsl := rs } : State).nextPhase .hiData).phaseWrite
  | startRaw (n : Nibble) (hph : s.ph = .idle) (hcur : s.current = some (.raw n)) :
      Runs s (s.nextPhase .hiData).phaseWrite
  | delay (d : Nat) (hph : s.ph = .idle) (hcur : s.current = some (.delay d)) : Runs s (s.delayItem d)
  | complete (hph : s.ph = .idle) (hcur : s.current = none) : Runs s s.complete
  | wait (hph : s.ph ≠ .idle) (hset : s.settle ≠ 0) : Runs s s.settleWait
  | write (hph : s.ph ≠ .idle) (hset : s.settle = 0) : Runs s s.phaseWrite

/-- R62, R64, R73: everything the request port can do with what it holds. -/
inductive Receives (s : State) : State → Prop
  | await (hdec : decodeRequest (s.rx ++ s.reqIn) = .incomplete) :
      Receives s { s with rx := s.rx ++ s.reqIn, reqIn := [], busy := !(s.rx ++ s.reqIn).isEmpty }
  | turnAway (rest : List Byte) (e : ErrorKind) (he : e = .transport ↔ s.fault = true) :
      Receives s (({ s with rx := [], reqIn := rest } : State).reject e)
  | accept (i : Instr) (rest : List Byte) (s' : State) (items : List Item) (hf : s.fault = false)
      (ha : Accepted i { s with rx := [], reqIn := rest } s' items) : Receives s (s'.launch items)

/-- R5: everything a step can be. -/
inductive StepTo (s : State) : State → Prop
  | reset (r : ResetInput) (hrst : s.rst = some r) : StepTo s (s.applyReset r)
  | run (t : State) (hrst : s.rst = none) (hrun : s.running = true) (h : Runs s t) : StepTo s t
  | port (t : State) (hrst : s.rst = none) (hrun : s.running = false) (h : Receives s t) : StepTo s t

/-- R5, R79: what the sequencer answers is one of its events. -/
theorem runs_of_sequence {s t : State} (h : sequence s = .next t) : Runs s t := by
  by_cases hph : s.ph = .idle
  · rw [sequence_idle hph] at h
    rcases startItem_cases s with ⟨rs, w, hc, hs⟩ | ⟨n, hc, hs⟩ | ⟨d, hc, hs⟩ | ⟨hc, hs⟩ <;>
      obtain rfl := Host.Outcome.next.inj (hs.symm.trans h)
    · exact .startXfer rs w hph hc
    · exact .startRaw n hph hc
    · exact .delay d hph hc
    · exact .complete hph hc
  · obtain rfl := Host.Outcome.next.inj ((sequence_phase hph).symm.trans h)
    unfold State.phaseEvent
    split
    · exact .write hph ‹_›
    · exact .wait hph ‹_›

/-- R62, R64, R73: what the request port answers is one of its actions. -/
theorem receives_of_receive {s t : State} (h : receive s = .next t) : Receives s t := by
  rcases receive_cases s with ⟨hd, hs⟩ | ⟨why, rest, -, hs⟩ | ⟨i, rest, hd, hs⟩
  · obtain rfl := Host.Outcome.next.inj (hs.symm.trans h)
    exact .await hd
  · obtain rfl := Host.Outcome.next.inj (hs.symm.trans h)
    unfold State.rejectReserved
    split
    · exact .turnAway rest .transport (iff_of_true rfl ‹_›)
    · exact .turnAway rest .request (iff_of_false (by decide) ‹_›)
  · rcases exec_request (decodeRequest_isRequest hd) (hs.symm.trans h) with ⟨e, rfl, he⟩ | ⟨hf, s', items, rfl, ha⟩
    · exact .turnAway rest e he
    · exact .accept i rest s' items hf ha

/-- R5: a step that answers a next state is one of these events. -/
theorem stepTo_of_step {s t : State} (h : step s = .next t) : StepTo s t := by
  cases hrst : s.rst with
  | some r =>
    obtain rfl := Host.Outcome.next.inj ((step_reset hrst).symm.trans h)
    exact .reset r hrst
  | none =>
    cases hrun : s.running with
    | false => exact .port t hrst hrun (receives_of_receive ((step_receive hrst hrun).symm.trans h))
    | true => exact .run t hrst hrun (runs_of_sequence ((step_running hrst hrun).symm.trans h))

/-- R79, R117, R164: what the steps of a running operation leave alone: the parameters, the request port, the reset
input and the control registers. -/
structure Undisturbed (s t : State) : Prop where
  cfg : t.cfg = s.cfg
  rx : t.rx = s.rx
  reqIn : t.reqIn = s.reqIn
  rst : t.rst = s.rst
  func : t.func = s.func
  dctl : t.dctl = s.dctl
  emode : t.emode = s.emode
  dshift : t.dshift = s.dshift
  bl : t.bl = s.bl
  pwrup : t.pwrup = s.pwrup
  numLines : t.numLines = s.numLines
  numCols : t.numCols = s.numCols
  configured : t.configured = s.configured

/-- The steps of a running operation, one after the other. -/
theorem Undisturbed.trans {s t u : State} (h : Undisturbed s t) (h' : Undisturbed t u) : Undisturbed s u := by
  constructor
  · exact h'.cfg.trans h.cfg
  · exact h'.rx.trans h.rx
  · exact h'.reqIn.trans h.reqIn
  · exact h'.rst.trans h.rst
  · exact h'.func.trans h.func
  · exact h'.dctl.trans h.dctl
  · exact h'.emode.trans h.emode
  · exact h'.dshift.trans h.dshift
  · exact h'.bl.trans h.bl
  · exact h'.pwrup.trans h.pwrup
  · exact h'.numLines.trans h.numLines
  · exact h'.numCols.trans h.numCols
  · exact h'.configured.trans h.configured

/-- R17: advancing the phase touches the sequencing state and the environment only. -/
theorem undisturbed_advance (s : State) : Undisturbed s s.advance := by
  unfold State.advance
  split <;> (try split) <;> constructor <;> rfl

/-- R40, R89: the three ways a port write goes: no answer yet, success, failure. -/
theorem undisturbed_phaseWrite (s : State) : Undisturbed s s.phaseWrite := by
  rcases phaseWrite_cases s with ⟨-, h⟩ | ⟨rest, -, h⟩ | ⟨reached, latched, rest, -, h⟩ <;> rw [h]
  · constructor <;> rfl
  · have hw : Undisturbed s (({ s with answers := rest } : State).portWrite s.phaseByte) := by constructor <;> rfl
    exact hw.trans (undisturbed_advance _)
  · constructor <;> rfl

theorem undisturbed_complete (s : State) : Undisturbed s s.complete := by
  unfold State.complete
  split <;> constructor <;> rfl

theorem undisturbed_delay (s : State) (d : Nat) : Undisturbed s (s.delay d) := by
  constructor <;> simp

theorem undisturbed_nextPhase (s : State) (ph : Phase) : Undisturbed s (s.nextPhase ph) := by
  constructor <;> rfl

theorem undisturbed_nextItem (s : State) : Undisturbed s s.nextItem := by
  constructor <;> rfl

/-- R164: every event of a running operation leaves the registers and the request port alone. -/
theorem Runs.undisturbed {s t : State} (h : Runs s t) : Undisturbed s t := by
  cases h with
  | startXfer rs w =>
    have hl : Undisturbed s { s with w := w, rsl := rs } := by constructor <;> rfl
    exact (hl.trans (undisturbed_nextPhase _ _)).trans (undisturbed_phaseWrite _)
  | startRaw n => exact (undisturbed_nextPhase _ _).trans (undisturbed_phaseWrite _)
  | delay d => exact (undisturbed_delay s d).trans (undisturbed_nextItem _)
  | complete => exact undisturbed_complete s
  | wait =>
    have hd : Undisturbed (s.delay s.settle) s.settleWait := by constructor <;> rfl
    exact (undisturbed_delay s s.settle).trans hd
  | write => exact undisturbed_phaseWrite s

end Sys2Proof.Machine
end

section
/-! PROOFS. The control registers and the geometry over a step. -/

namespace Sys2Proof.Machine

/-- R31: a byte sets no bit outside a mask. -/
abbrev Within (m v : Byte) : Prop := v &&& ~~~m = 0#8

theorem within_or_left {a v : Byte} (h : Within a v) (b : Byte) : Within (a ||| b) v := by
  rw [Within, BitVec.not_or, ← BitVec.and_assoc, h, BitVec.zero_and]

theorem within_left (a b : Byte) : Within (a ||| b) a := within_or_left (BitVec.and_not_self a) b

theorem within_right (a b : Byte) : Within (a ||| b) b := by
  rw [BitVec.or_comm]
  exact within_left b a

/-- R32: setting a bit of the mask. -/
theorem within_set {m v f : Byte} (hv : Within m v) (hf : Within m f) : Within m (v ||| f) := or_and_zero hv hf

/-- R32: clearing a bit. -/
theorem within_clear {m v : Byte} (hv : Within m v) (f : Byte) : Within m (v &&& ~~~f) := by
  rw [Within, BitVec.and_assoc, BitVec.and_comm (~~~f), ← BitVec.and_assoc, hv, BitVec.zero_and]

theorem within_functionForLines {p : Params} {v : Byte} (hv : Within p.funcBits v) (lines : Byte) :
    Within p.funcBits (functionForLines p v lines) := by
  unfold functionForLines
  split
  · exact within_set hv (within_left _ _)
  · exact within_clear hv _

theorem within_dctlBits {p : Params} {f : Byte} (h : f ∈ [p.displayOn, p.cursorOn, p.blinkOn]) :
    Within p.dctlBits f := by
  simp only [List.mem_cons, List.not_mem_nil, or_false] at h
  rcases h with rfl | rfl | rfl
  · exact within_or_left (within_left _ _) _
  · exact within_or_left (within_right _ _) _
  · exact within_right _ _

theorem within_emodeBits {p : Params} {f : Byte} (h : f ∈ [p.entryLeft, p.shiftIncrement]) :
    Within p.emodeBits f := by
  simp only [List.mem_cons, List.not_mem_nil, or_false] at h
  rcases h with rfl | rfl
  · exact within_left _ _
  · exact within_right _ _

theorem RegistersClean.undisturbed {s t : State} (hs : RegistersClean s) (h : Undisturbed s t) : RegistersClean t := by
  constructor
  · rw [h.cfg]; exact hs.resets
  · rw [h.cfg, h.func]; exact hs.func
  · rw [h.cfg, h.dctl]; exact hs.dctl
  · rw [h.cfg, h.emode]; exact hs.emode

/-- R31, R36: the reset values of the parameters set no undefined bit (D7). -/
theorem registersClean_resetWith {p : Params} (h : p.wfResets = true) (r : ResetInput) (env : Env) :
    RegistersClean (State.resetWith p r env) := by
  have hz := h
  simp only [Params.wfResets, Bool.and_eq_true, beq_iff_eq] at hz
  obtain ⟨⟨hf, hd⟩, he⟩ := hz
  exact ⟨h, hf, hd, he⟩

/-- R31: every accepted operation restricts itself to the bits of its register. -/
theorem RegistersClean.accepted {i : Instr} {s s' : State} {items : List Item} (hs : RegistersClean s)
    (ha : Accepted i s s' items) : RegistersClean s' := by
  obtain ⟨hr, hf, hd, he⟩ := hs
  rcases ha with ⟨c, l, -, -, -, rfl⟩ | ⟨-, -, rfl, -⟩ | ⟨-, -, -, f, hm, rfl | rfl⟩ | ⟨-, -, -, f, hm, rfl | rfl⟩ |
    ⟨-, rfl, -⟩
  · exact ⟨hr, within_functionForLines hf l, hd, he⟩
  · exact ⟨hr, hf, hd, he⟩
  · exact ⟨hr, hf, within_set hd (within_dctlBits hm), he⟩
  · exact ⟨hr, hf, within_clear hd f, he⟩
  · exact ⟨hr, hf, hd, within_set he (within_emodeBits hm)⟩
  · exact ⟨hr, hf, hd, within_clear he f⟩
  · exact ⟨hr, hf, hd, he⟩

/-- R31: every step keeps undefined bits clear. -/
theorem RegistersClean.step {s t : State} (hs : RegistersClean s) (h : StepTo s t) : RegistersClean t := by
  cases h with
  | reset r =>
    obtain ⟨hr, hf, hd, he⟩ := registersClean_resetWith hs.resets r s.env
    exact ⟨hr, hf, hd, he⟩
  | run _ _ _ h => exact hs.undisturbed h.undisturbed
  | port _ _ _ h =>
    obtain ⟨hr, hf, hd, he⟩ := hs
    cases h with
    | await => exact ⟨hr, hf, hd, he⟩
    | turnAway => exact ⟨hr, hf, hd, he⟩
    | accept i rest s' items _ ha =>
      obtain ⟨hr', hf', hd', he'⟩ :=
        RegistersClean.accepted (s := { s with rx := [], reqIn := rest }) ⟨hr, hf, hd, he⟩ ha
      exact ⟨hr', hf', hd', he'⟩

theorem GeometryValid.undisturbed {s t : State} (hs : GeometryValid s) (h : Undisturbed s t) : GeometryValid t := by
  constructor
  · rw [h.configured, h.numLines, h.numCols]; exact hs.unset
  · rw [h.configured, h.numLines]; exact hs.lines
  · rw [h.configured, h.numCols]; exact hs.cols

/-- R120: what the domain of BEGIN means for the geometry that it sets (R119). -/
theorem beginInvalid_eq_false {c l : Byte} {s : State} (h : beginInvalid c l s = false) :
    c ≠ 0#8 ∧ 1 ≤ (l.setWidth 3).toNat ∧ (l.setWidth 3).toNat ≤ 4 := by
  simp only [beginInvalid, Bool.or_eq_false_iff, beq_eq_false_iff_ne] at h
  obtain ⟨⟨⟨-, hc⟩, hl⟩, hm⟩ := h
  have hl' : l.toNat ≠ 0 := fun h0 => hl (BitVec.eq_of_toNat_eq h0)
  have hm' : ¬ 4 < l.toNat := of_decide_eq_false hm
  rw [BitVec.toNat_setWidth, Nat.mod_eq_of_lt (by omega)]
  exact ⟨hc, by omega, by omega⟩

/-- R27, R28, R29: BEGIN alone writes the geometry. -/
theorem GeometryValid.accepted {i : Instr} {s s' : State} {items : List Item} (hs : GeometryValid s)
    (ha : Accepted i s s' items) : GeometryValid s' := by
  obtain ⟨hu, hl, hc⟩ := hs
  rcases ha with ⟨c, l, -, hb, -, rfl⟩ | ⟨-, -, rfl, -⟩ | ⟨-, -, -, f, -, rfl | rfl⟩ | ⟨-, -, -, f, -, rfl | rfl⟩ |
    ⟨-, rfl, -⟩
  · obtain ⟨hcols, h1, h4⟩ := beginInvalid_eq_false hb
    exact { unset := fun h => by simp at h, lines := fun _ => ⟨h1, h4⟩, cols := fun _ => hcols }
  all_goals exact ⟨hu, hl, hc⟩

/-- R27, R28, R29: every step keeps the geometry in its range. -/
theorem GeometryValid.step {s t : State} (hs : GeometryValid s) (h : StepTo s t) : GeometryValid t := by
  cases h with
  | reset r => exact ⟨fun _ => ⟨rfl, rfl⟩, (nomatch ·), (nomatch ·)⟩
  | run _ _ _ h => exact hs.undisturbed h.undisturbed
  | port _ _ _ h =>
    obtain ⟨hu, hl, hc⟩ := hs
    cases h with
    | await => exact ⟨hu, hl, hc⟩
    | turnAway => exact ⟨hu, hl, hc⟩
    | accept i rest s' items _ ha =>
      obtain ⟨hu', hl', hc'⟩ :=
        GeometryValid.accepted (s := { s with rx := [], reqIn := rest }) ⟨hu, hl, hc⟩ ha
      exact ⟨hu', hl', hc'⟩

/-- What an accepted operation leaves of the rest of the state: everything but the control registers, the geometry and
`PWRUP` (R117, R118). -/
theorem Accepted.frame {i : Instr} {s s' : State} {items : List Item} (ha : Accepted i s s' items) :
    s' = { s with
      numCols := s'.numCols, numLines := s'.numLines, configured := s'.configured, func := s'.func, dctl := s'.dctl,
      emode := s'.emode, pwrup := s'.pwrup } := by
  rcases ha with ⟨c, l, -, -, -, rfl⟩ | ⟨-, -, rfl, -⟩ | ⟨-, -, -, f, -, rfl | rfl⟩ | ⟨-, -, -, f, -, rfl | rfl⟩ |
    ⟨-, rfl, -⟩ <;> rfl

/-- R25: no accepted operation sets `PWRUP`. -/
theorem Accepted.pwrup {i : Instr} {s s' : State} {items : List Item} (ha : Accepted i s s' items)
    (h : s.pwrup = false) : s'.pwrup = false := by
  rcases ha with ⟨c, l, -, -, -, rfl⟩ | ⟨-, -, rfl, -⟩ | ⟨-, -, -, f, -, rfl | rfl⟩ | ⟨-, -, -, f, -, rfl | rfl⟩ |
    ⟨-, rfl, -⟩
  case inr.inl => rfl
  all_goals exact h

/-- R123: an expansion has a raw nibble or has none. -/
theorem noRaw_eq_false_iff (items : List Item) : noRaw items = false ↔ ∃ n, .raw n ∈ items := by
  induction items with
  | nil => simp [noRaw]
  | cons it items ih => cases it <;> simp [noRaw, ih]

/-- R121, R123: INIT's words and delays follow the power-up path, and none of them is a raw nibble. -/
theorem noRaw_initItems (s : State) : noRaw (initItems s) = !s.pwrup := by
  simp only [initItems, powerUpItems, List.append_assoc]
  cases s.pwrup with
  | false =>
    simp only [Bool.false_eq_true, if_false, List.nil_append, noRaw_wordItems]
    rfl
  | true => rfl

/-- Settles O7: the reset values are within the masks, and each event keeps the registers within them. -/
theorem noUndefinedRegisterBits : Obligations.NoUndefinedRegisterBits :=
  ⟨fun _ r env h => registersClean_resetWith h r env, fun _ _ hs h => hs.step (stepTo_of_step h), by decide, by decide,
    by decide⟩

/-- Settles O56: of all events only INIT's acceptance writes `PWRUP`, and its expansion has the raw nibble of the
power-up path alone. -/
theorem powerUpFlagIsOneTime : Obligations.PowerUpFlagIsOneTime := by
  constructor
  · intro s t hrst hp h
    cases stepTo_of_step h with
    | reset r hr => rw [hrst] at hr; cases hr
    | run _ _ _ h => exact h.undisturbed.pwrup.trans hp
    | port _ _ _ h =>
      cases h with
      | await => exact hp
      | turnAway => exact hp
      | accept i rest s' items _ ha => exact ha.pwrup hp
  · intro s hs
    refine ⟨({ s with pwrup := false } : State).launch (initItems s), whenReady_ready hs _, rfl, ?_⟩
    rw [launch_expansion, ← noRaw_eq_false_iff, noRaw_initItems, Bool.not_eq_false']

/-- Settles O1: `State.resetWith` writes the table out. -/
theorem resetHoldsTableValues : Obligations.ResetHoldsTableValues :=
  ⟨fun _ _ _ => ⟨rfl, rfl, rfl, rfl, rfl, rfl, rfl, rfl, rfl, rfl, rfl, rfl, rfl, rfl⟩, rfl, rfl, rfl, rfl, rfl, rfl⟩

end Sys2Proof.Machine
end

section
/-! PROOFS. The sequencing state, the shadow and the sticky fault over a step, and with them the whole invariant. -/

namespace Sys2Proof.Machine

/-! R16, R17, R62: the sequencing state. -/

/-- With the sequencer at the start and no byte of a request taken, the sequencing state is valid; without `BUSY` there
must be nothing to run. -/
theorem sequencingValid_of_start {s : State} (hph : s.ph = .idle) (hitem : s.item = 0) (hset : s.settle = 0)
    (hrx : s.rx = []) (hturn : s.verdict ≠ none → s.expansion = [])
    (hrest : s.busy = false → s.expansion = [] ∧ s.verdict = none) : SequencingValid s where
  rest h := by
    have hb : s.busy = false := by simpa [State.running, hrx] using h
    obtain ⟨he, hv⟩ := hrest hb
    exact ⟨hph, hitem, he, hv⟩
  turnedAway h := ⟨hph, hturn h⟩
  settle := .inl hset
  taken h := absurd hrx h
  partialRequest := by rw [hrx]; rfl
  index := by rw [hitem]; exact Nat.zero_le _
  phase h := absurd hph h

/-- R139, R175: nor is there anything to run once a request has completed. -/
theorem sequencingValid_raise {s : State} (hrx : s.rx = []) (e : ErrorKind) : SequencingValid (s.raise e) :=
  sequencingValid_of_start rfl rfl rfl hrx (fun _ => rfl) (fun _ => ⟨rfl, rfl⟩)

theorem sequencingValid_succeed {s : State} (hrx : s.rx = []) : SequencingValid s.succeed :=
  sequencingValid_of_start rfl rfl rfl hrx (fun _ => rfl) (fun _ => ⟨rfl, rfl⟩)

theorem running_rx {s : State} (h : s.running = true) : s.rx = [] := by
  simp only [State.running, Bool.and_eq_true, List.isEmpty_iff] at h
  exact h.2

/-- R73: an operation with an item to execute has not been turned away. -/
theorem SequencingValid.verdict_none {s : State} (hs : SequencingValid s) {it : Item} (hc : s.current = some it) :
    s.verdict = none := by
  by_contra hv
  obtain ⟨-, he⟩ := hs.turnedAway hv
  simp [State.current, he] at hc

/-- R17: outside `IDLE` there is an item under way. -/
theorem SequencingValid.current_of_phase {s : State} (hs : SequencingValid s) (hph : s.ph ≠ .idle) :
    ∃ it, s.current = some it := by
  rcases hs.phase hph with h | ⟨⟨n, h⟩, -⟩ <;> exact ⟨_, h⟩

/-- R17, R87: the sequencer enters a phase of the current item, one of the high phases if that is a raw nibble. -/
theorem SequencingValid.nextPhase {s : State} (hs : SequencingValid s) (hrun : s.running = true) {ph : Phase}
    (hit : s.current = some (.xfer s.rsl s.w) ∨
      ((∃ n, s.current = some (.raw n)) ∧ (ph = .hiData ∨ ph = .hiEn1 ∨ ph = .hiEn0))) :
    SequencingValid (s.nextPhase ph) where
  rest h := absurd (hrun.symm.trans h) (by decide)
  turnedAway h := by
    obtain ⟨it, hc⟩ : ∃ it, s.current = some it := by rcases hit with h | ⟨⟨n, h⟩, -⟩ <;> exact ⟨_, h⟩
    exact absurd (hs.verdict_none hc) h
  settle := .inr rfl
  taken := hs.taken
  partialRequest := hs.partialRequest
  index := hs.index
  phase _ := hit

/-- R17: the current item ends. -/
theorem SequencingValid.nextItem {s : State} (hs : SequencingValid s) (hrun : s.running = true) {it : Item}
    (hc : s.current = some it) : SequencingValid s.nextItem where
  rest h := absurd (hrun.symm.trans h) (by decide)
  turnedAway h := absurd (hs.verdict_none hc) h
  settle := .inl rfl
  taken := hs.taken
  partialRequest := hs.partialRequest
  index := by
    obtain ⟨h, -⟩ := List.getElem?_eq_some_iff.mp hc
    exact h
  phase h := absurd rfl h

/-- The sequencing state has no part in what the transport and the environment hold. -/
theorem SequencingValid.surroundings {s : State} (hs : SequencingValid s) (answers : List Answer) (port : Byte)
    (env : Env) (trace : List Event) :
    SequencingValid { s with answers := answers, port := port, env := env, trace := trace } :=
  ⟨hs.rest, hs.turnedAway, hs.settle, hs.taken, hs.partialRequest, hs.index, hs.phase⟩

/-- R17: a successful write leads from each phase of an item to its next one, or to the item's end. -/
theorem SequencingValid.advance {s : State} (hs : SequencingValid s) (hrun : s.running = true) (hph : s.ph ≠ .idle) :
    SequencingValid s.advance := by
  obtain ⟨it, hc⟩ := hs.current_of_phase hph
  have hit := hs.phase hph
  cases hp : s.ph <;>
    simp only [State.advance, hp, reduceCtorEq, or_self, or_false, or_true, and_false, and_true] at hit ⊢
  case idle => exact absurd hp hph
  case hiData => exact hs.nextPhase hrun (hit.imp_right fun h => ⟨h, by simp⟩)
  case hiEn1 => exact hs.nextPhase hrun (hit.imp_right fun h => ⟨h, by simp⟩)
  case hiEn0 =>
    rcases hit with h | ⟨n, h⟩ <;> simp only [h]
    · exact hs.nextPhase hrun (.inl h)
    · exact hs.nextItem hrun h
  case loData => exact hs.nextPhase hrun (.inl hit)
  case loEn1 => exact hs.nextPhase hrun (.inl hit)
  case loEn0 => exact (hs.nextPhase hrun (ph := .release) (.inl hit)).surroundings _ _ s.owed _
  case release => exact hs.nextItem hrun hc

/-- R17, R40, R89: the port write of a phase. -/
theorem SequencingValid.phaseWrite {s : State} (hs : SequencingValid s) (hrun : s.running = true) (hph : s.ph ≠ .idle) :
    SequencingValid s.phaseWrite := by
  rcases phaseWrite_cases s with ⟨-, h⟩ | ⟨rest, -, h⟩ | ⟨reached, latched, rest, -, h⟩ <;> rw [h]
  · exact hs
  · exact SequencingValid.advance (hs.surroundings rest s.phaseByte _ _) hrun hph
  · obtain ⟨env, hf⟩ := failWrite_eq ({ s with answers := rest } : State) reached latched
    rw [hf]
    refine sequencingValid_raise ?_ _
    exact running_rx (s := s) hrun

/-- R17: every event of a running operation keeps the sequencing state valid. -/
theorem SequencingValid.run {s t : State} (hs : SequencingValid s) (hrun : s.running = true) (h : Runs s t) :
    SequencingValid t := by
  cases h with
  | startXfer rs w hph hcur =>
    have hl : SequencingValid { s with w := w, rsl := rs } :=
      ⟨hs.rest, hs.turnedAway, hs.settle, hs.taken, hs.partialRequest, hs.index, fun h => absurd hph h⟩
    exact (hl.nextPhase hrun (.inl hcur)).phaseWrite hrun (by simp)
  | startRaw n hph hcur => exact (hs.nextPhase hrun (.inr ⟨⟨n, hcur⟩, .inl rfl⟩)).phaseWrite hrun (by simp)
  | delay d hph hcur =>
    rw [State.delayItem, delay_eq_emitAll]
    exact SequencingValid.nextItem (hs.surroundings _ _ _ _) hrun hcur
  | complete =>
    unfold State.complete
    split
    · exact sequencingValid_raise (running_rx hrun) _
    · exact sequencingValid_succeed (running_rx hrun)
  | wait =>
    rw [State.settleWait, delay_eq_emitAll]
    exact ⟨hs.rest, hs.turnedAway, .inl rfl, hs.taken, hs.partialRequest, hs.index, hs.phase⟩
  | write hph => exact hs.phaseWrite hrun hph

/-- R62, R73: so does every action of the request port. -/
theorem SequencingValid.receive {s t : State} (hs : SequencingValid s) (hrun : s.running = false) (h : Receives s t) :
    SequencingValid t := by
  cases h with
  | await hdec =>
    obtain ⟨hph, hitem, he, hv⟩ := hs.rest hrun
    exact
      { rest := fun _ => ⟨hph, hitem, he, hv⟩
        turnedAway := hs.turnedAway
        settle := hs.settle
        taken := fun h => by simpa using h
        partialRequest := hdec
        index := hs.index
        phase := fun h => absurd hph h }
  | turnAway rest e => exact sequencingValid_of_start rfl rfl rfl rfl (fun _ => rfl) (fun h => by simp at h)
  | accept i rest s' items _ ha =>
    have hx : s'.rx = [] := by rw [ha.frame]
    exact sequencingValid_of_start rfl rfl rfl hx (fun h => absurd rfl h) (fun h => by simp at h)

/-! R82, R83, R87: the shadow. -/

/-- The byte that a phase of the current item finds in `PORT`, where it follows one that has written. -/
def State.shadowAt (s : State) : Phase → Option Byte
  | .hiEn1 | .loData => some s.hiDataByte
  | .hiEn0 => some (withEn s.cfg s.hiDataByte)
  | .loEn1 | .release => some (loByte s.cfg s.rsl s.bl s.w)
  | .loEn0 => some (withEn s.cfg (loByte s.cfg s.rsl s.bl s.w))
  | .idle | .hiData => none

theorem shadowValid_iff (s : State) : ShadowValid s ↔ ∀ b, s.shadowAt s.ph = some b → s.port = b := by
  constructor
  · rintro ⟨h1, h2, h3, h4, h5, h6⟩ b hb
    cases hp : s.ph <;> simp only [State.shadowAt, hp, Option.some.injEq, reduceCtorEq] at hb <;> subst hb
    · exact h1 hp
    · exact h2 hp
    · exact h3 hp
    · exact h4 hp
    · exact h5 hp
    · exact h6 hp
  · intro h
    constructor <;> intro hp <;> exact h _ (by simp [State.shadowAt, hp])

/-- R17: with `PH = IDLE` nothing is asked of the shadow. -/
theorem shadowValid_of_idle {s : State} (h : s.ph = .idle) : ShadowValid s :=
  (shadowValid_iff s).mpr fun b hb => by simp [State.shadowAt, h] at hb

theorem shadowValid_nextPhase {s : State} {ph : Phase} (h : ∀ b, s.shadowAt ph = some b → s.port = b) :
    ShadowValid (s.nextPhase ph) :=
  (shadowValid_iff _).mpr h

theorem hiDataByte_enClear {s : State} (hwf : s.cfg.wfMasks = true) : EnClear s.cfg s.hiDataByte := by
  unfold State.hiDataByte
  split
  · exact rawByte_enClear hwf _ _
  all_goals exact hiByte_enClear hwf _ _ _

/-- R17, R82, R83: the byte a phase writes is the one that the phase it leads to finds in `PORT`. -/
theorem ShadowValid.advance {s : State} (hwf : s.cfg.wfMasks = true) (hs : ShadowValid s) :
    ShadowValid (s.portWrite s.phaseByte).advance := by
  have next : ∀ ph, s.shadowAt ph = some s.phaseByte → ShadowValid ((s.portWrite s.phaseByte).nextPhase ph) :=
    fun ph h => shadowValid_nextPhase fun b hb => Option.some.inj (h.symm.trans hb)
  cases hp : s.ph <;> simp only [State.advance, portWrite_ph, hp]
  case idle => exact shadowValid_of_idle hp
  case hiData => exact next .hiEn1 (by simp [State.shadowAt, State.phaseByte, hp])
  case hiEn1 => exact next .hiEn0 (by simp [State.shadowAt, State.phaseByte, hp, hs.hiEn1 hp])
  case hiEn0 =>
    have hb : s.shadowAt .loData = some s.phaseByte := by
      simp [State.shadowAt, State.phaseByte, hp, hs.hiEn0 hp, withoutEn_withEn (hiDataByte_enClear hwf)]
    split
    · exact shadowValid_of_idle rfl
    all_goals exact next .loData hb
  case loData => exact next .loEn1 (by simp [State.shadowAt, State.phaseByte, hp])
  case loEn1 => exact next .loEn0 (by simp [State.shadowAt, State.phaseByte, hp, hs.loEn1 hp])
  case loEn0 =>
    have hb : s.shadowAt .release = some s.phaseByte := by
      simp [State.shadowAt, State.phaseByte, hp, hs.loEn0 hp, withoutEn_withEn (loByte_enClear hwf _ _ _)]
    exact shadowValid_nextPhase fun b h => Option.some.inj (hb.symm.trans h)
  case release => exact shadowValid_of_idle rfl

/-- R40, R89: the port write of a phase. -/
theorem ShadowValid.phaseWrite {s : State} (hwf : s.cfg.wfMasks = true) (hs : ShadowValid s) :
    ShadowValid s.phaseWrite := by
  rcases phaseWrite_cases s with ⟨-, h⟩ | ⟨rest, -, h⟩ | ⟨reached, latched, rest, -, h⟩ <;> rw [h]
  · exact hs
  · exact ShadowValid.advance (s := { s with answers := rest }) hwf
      ⟨hs.hiEn1, hs.hiEn0, hs.loData, hs.loEn1, hs.loEn0, hs.release⟩
  · exact shadowValid_of_idle rfl

/-- R82, R83, R87: every event of a running operation keeps the shadow valid. -/
theorem ShadowValid.run {s t : State} (hwf : s.cfg.wfMasks = true) (hs : ShadowValid s) (h : Runs s t) :
    ShadowValid t := by
  cases h with
  | startXfer rs w => exact ShadowValid.phaseWrite hwf (shadowValid_nextPhase fun b hb => nomatch hb)
  | startRaw n => exact ShadowValid.phaseWrite hwf (shadowValid_nextPhase fun b hb => nomatch hb)
  | delay d => exact shadowValid_of_idle rfl
  | complete =>
    unfold State.complete
    split <;> exact shadowValid_of_idle rfl
  | wait =>
    rw [State.settleWait, delay_eq_emitAll]
    have hport : (s.emitAll (waitEvents s.settle)).port = s.port := lastWrite_waitEvents _ _
    exact (shadowValid_iff _).mpr fun b hb => hport.trans ((shadowValid_iff s).mp hs b hb)
  | write => exact hs.phaseWrite hwf

/-- R17: so does every action of the request port, after which the sequencer is idle. -/
theorem ShadowValid.receive {s t : State} (hph : s.ph = .idle) (h : Receives s t) : ShadowValid t := by
  cases h with
  | await => exact shadowValid_of_idle hph
  | turnAway => exact shadowValid_of_idle rfl
  | accept => exact shadowValid_of_idle rfl

/-! R20, R139, R144: the sticky fault. -/

/-- The fault is told by `FAULT`, `STATUS`, the verdict and whether an operation runs. -/
theorem FaultLatched.congr {s t : State} (hs : FaultLatched s) (hf : t.fault = s.fault) (hst : t.status = s.status)
    (hv : t.verdict = s.verdict) (hr : t.running = true → s.running = true) : FaultLatched t where
  status h := by rw [hst]; exact hs.status (hf.symm.trans h)
  stopped h hrun := by rw [hv]; exact hs.stopped (hf.symm.trans h) (hr hrun)
  verdict e h := by rw [hf]; exact hs.verdict e (hv.symm.trans h)

/-- R139, R142: a transport error sets `FAULT` and ends the operation. -/
theorem faultLatched_raise_transport (s : State) : FaultLatched (s.raise .transport) :=
  ⟨fun _ => rfl, fun _ h => by simp [State.running] at h, fun e h => nomatch h⟩

/-- R17: advancing the phase leaves the fault, the status and the operation alone. -/
theorem advance_status (s : State) :
    s.advance.fault = s.fault ∧ s.advance.status = s.status ∧ s.advance.verdict = s.verdict ∧
      s.advance.running = s.running := by
  unfold State.advance
  split <;> (try split) <;> exact ⟨rfl, rfl, rfl, rfl⟩

/-- R89, R139: the port write of a phase. -/
theorem FaultLatched.phaseWrite {s : State} (hs : FaultLatched s) : FaultLatched s.phaseWrite := by
  rcases phaseWrite_cases s with ⟨-, h⟩ | ⟨rest, -, h⟩ | ⟨reached, latched, rest, -, h⟩ <;> rw [h]
  · exact hs
  · obtain ⟨hf, hst, hv, hr⟩ := advance_status (({ s with answers := rest } : State).portWrite s.phaseByte)
    exact hs.congr hf hst hv hr.symm.trans
  · obtain ⟨env, hf⟩ := failWrite_eq ({ s with answers := rest } : State) reached latched
    rw [hf]
    exact faultLatched_raise_transport _

/-- R139, R144: a completion reports TransportError under the sticky fault and only there. -/
theorem FaultLatched.complete {s : State} (hs : FaultLatched s) (hrun : s.running = true) :
    FaultLatched s.complete := by
  cases hv : s.verdict with
  | none =>
    have hf : s.fault = false := by
      by_contra hf
      have := hs.stopped (by simpa using hf) hrun
      simp [hv] at this
    rw [complete_running hv]
    exact ⟨fun h => absurd (hf.symm.trans h) (by decide), fun h => absurd (hf.symm.trans h) (by decide),
      fun e h => nomatch h⟩
  | some e =>
    rw [complete_rejected hv]
    by_cases he : e = .transport
    · exact he ▸ faultLatched_raise_transport s
    · have hf : (s.raise e).fault = false := by
        have : s.fault = false := by simpa using (hs.verdict e hv).not.mp he
        cases e <;> simp [this, ErrorKind.setsFault] at he ⊢
      exact ⟨fun h => absurd (hf.symm.trans h) (by decide), fun h => absurd (hf.symm.trans h) (by decide),
        fun e h => nomatch h⟩

/-- R20, R142, R144: every event of a running operation. -/
theorem FaultLatched.run {s t : State} (hs : FaultLatched s) (hrun : s.running = true) (h : Runs s t) :
    FaultLatched t := by
  cases h with
  | startXfer rs w => exact FaultLatched.phaseWrite (hs.congr rfl rfl rfl id)
  | startRaw n => exact FaultLatched.phaseWrite (hs.congr rfl rfl rfl id)
  | delay d =>
    rw [State.delayItem, delay_eq_emitAll]
    exact hs.congr rfl rfl rfl id
  | complete => exact hs.complete hrun
  | wait =>
    rw [State.settleWait, delay_eq_emitAll]
    exact hs.congr rfl rfl rfl id
  | write => exact hs.phaseWrite

/-- R73, R144: every action of the request port. -/
theorem FaultLatched.receive {s t : State} (hs : FaultLatched s) (h : Receives s t) : FaultLatched t := by
  cases h with
  | await =>
    refine hs.congr rfl rfl rfl fun h => ?_
    simp [State.running] at h
  | turnAway rest e he =>
    refine ⟨hs.status, fun hf _ => ?_, fun e' h => ?_⟩
    · exact congrArg some (he.mpr hf)
    · obtain rfl := Option.some.inj h
      exact he
  | accept i rest s' items hf ha =>
    have hf' : s'.fault = false := by rw [ha.frame]; exact hf
    exact ⟨fun h => absurd (hf'.symm.trans h) (by decide), fun h => absurd (hf'.symm.trans h) (by decide),
      fun e h => nomatch h⟩

/-! The invariant. -/

/-- R153, R36: the state after a reset has the invariant, whatever the state before it. -/
theorem inv_applyReset {s : State} (hwf : s.cfg.wf = true) (r : ResetInput) : Inv (s.applyReset r) where
  cfg := hwf
  registers := by
    have hres : s.cfg.wfResets = true := by
      simp only [Params.wf, Bool.and_eq_true] at hwf
      exact hwf.2
    obtain ⟨hr, hf, hd, he⟩ := registersClean_resetWith hres r s.env
    exact ⟨hr, hf, hd, he⟩
  geometry := ⟨fun _ => ⟨rfl, rfl⟩, (nomatch ·), (nomatch ·)⟩
  sequencing := sequencingValid_of_start rfl rfl rfl rfl (fun _ => rfl) (fun _ => ⟨rfl, rfl⟩)
  shadow := shadowValid_of_idle rfl
  faulted := ⟨(nomatch ·), (nomatch ·), fun _ h => nomatch h⟩

theorem Receives.cfg {s t : State} (h : Receives s t) : t.cfg = s.cfg := by
  cases h with
  | await => rfl
  | turnAway => rfl
  | accept i rest s' items _ ha => rw [launch_cfg, ha.frame]

/-- Every step keeps the invariant, part by part. -/
theorem Inv.step {s t : State} (hs : Inv s) (h : StepTo s t) : Inv t := by
  have hr := hs.registers.step h
  have hg := hs.geometry.step h
  cases h with
  | reset r => exact inv_applyReset hs.cfg r
  | run _ _ hrun h =>
    have hcfg : t.cfg.wf = true := by rw [h.undisturbed.cfg]; exact hs.cfg
    exact ⟨hcfg, hr, hg, hs.sequencing.run hrun h, hs.shadow.run (wf_wfMasks hs.cfg) h, hs.faulted.run hrun h⟩
  | port _ _ hrun h =>
    have hcfg : t.cfg.wf = true := by rw [h.cfg]; exact hs.cfg
    obtain ⟨hph, -⟩ := hs.sequencing.rest hrun
    exact ⟨hcfg, hr, hg, hs.sequencing.receive hrun h, ShadowValid.receive hph h, hs.faulted.receive h⟩

/-- Settles O4: `State.reset` is its own reset, since it holds nothing a reset keeps but the parameters and the
environment. -/
theorem invariantHoldsAtReset : Obligations.InvariantHoldsAtReset :=
  inv_applyReset (s := State.reset) (by decide) ResetInput.default

/-- Settles O5: each part of the invariant, over each event a step can be. -/
theorem stepKeepsInvariant : Obligations.StepKeepsInvariant := fun _ _ hs h => hs.step (stepTo_of_step h)

end Sys2Proof.Machine
end

section
/-! PROOFS. What a step does to the port, to the expander and to the trace. -/

namespace Sys2Proof.Machine

/-- R30, R34(a), R40: what one event does to the trace, to `PORT` and to the expander's byte: a successful write, a
failed one, or no write. -/
def WritesAlone (s t : State) : Prop :=
  (∃ b, t.trace = s.trace ++ [.write b] ∧ t.port = b ∧ t.env.expLatch = b) ∨
    (∃ b, t.trace = s.trace ++ [.writeFail b] ∧ t.port = s.port ∧
      (t.env.expLatch = b ∨ t.env.expLatch = s.env.expLatch)) ∨
    ((t.trace = s.trace ∨ ∃ d, t.trace = s.trace ++ [.delay d]) ∧ t.port = s.port ∧
      t.env.expLatch = s.env.expLatch)

theorem writesAlone_of_silent {s t : State} (ht : t.trace = s.trace) (hp : t.port = s.port) (he : t.env = s.env) :
    WritesAlone s t :=
  .inr (.inr ⟨.inl ht, hp, congrArg Env.expLatch he⟩)

/-- R17, R40, R89: the port write of a phase. -/
theorem writesAlone_phaseWrite (s : State) : WritesAlone s s.phaseWrite := by
  rcases phaseWrite_cases s with ⟨-, h⟩ | ⟨rest, -, h⟩ | ⟨reached, latched, rest, -, h⟩ <;> rw [h]
  · exact writesAlone_of_silent rfl rfl rfl
  · obtain ⟨ht, hp, he⟩ := advance_writes_nothing (({ s with answers := rest } : State).portWrite s.phaseByte)
    exact .inl ⟨s.phaseByte, ht, hp, he⟩
  · refine .inr (.inl ⟨s.phaseByte, rfl, rfl, ?_⟩)
    rw [failWrite_expLatch]
    cases reached
    · exact .inr rfl
    · exact .inl rfl

/-- R41, R88: a wait is at most one event, and no write. -/
theorem writesAlone_delay (s : State) (d : Nat) : WritesAlone s (s.delay d) := by
  by_cases hd : d = 0
  · subst hd
    exact writesAlone_of_silent rfl rfl rfl
  · rw [delay_pos s hd]
    exact .inr (.inr ⟨.inr ⟨d, rfl⟩, rfl, rfl⟩)

/-- R17: the end of an item changes neither trace nor port nor expander. -/
theorem WritesAlone.nextItem {s t : State} (h : WritesAlone s t) : WritesAlone s t.nextItem := by
  have he : t.nextItem.env.expLatch = t.env.expLatch := owed_expLatch t
  unfold WritesAlone at h ⊢
  rw [he]
  exact h

/-- R5, R40: every event of a running operation. -/
theorem writesAlone_of_runs {s t : State} (h : Runs s t) : WritesAlone s t := by
  cases h with
  | startXfer rs w => exact writesAlone_phaseWrite (({ s with w := w, rsl := rs } : State).nextPhase .hiData)
  | startRaw n => exact writesAlone_phaseWrite (s.nextPhase .hiData)
  | delay d => exact (writesAlone_delay s d).nextItem
  | complete =>
    unfold State.complete
    split <;> exact writesAlone_of_silent rfl rfl rfl
  | wait => exact writesAlone_delay s s.settle
  | write => exact writesAlone_phaseWrite s

/-- R62: the request port writes nothing. -/
theorem writesAlone_of_receives {s t : State} (h : Receives s t) : WritesAlone s t := by
  cases h with
  | await => exact writesAlone_of_silent rfl rfl rfl
  | turnAway => exact writesAlone_of_silent rfl rfl rfl
  | accept i rest s' items _ ha =>
    rw [ha.frame]
    exact writesAlone_of_silent rfl rfl rfl

/-- Settles O59: each event of a running operation and each action of the request port is one of the three. -/
theorem writesAloneReachTheExpander : Obligations.WritesAloneReachTheExpander := by
  intro s t hrst h
  cases stepTo_of_step h with
  | reset r hr => rw [hrst] at hr; cases hr
  | run _ _ _ h => exact writesAlone_of_runs h
  | port _ _ _ h => exact writesAlone_of_receives h

end Sys2Proof.Machine
end

section
/-! PROOFS. Two runs that differ in the unspecified latches `W`, `RSL` and `PORT` alone. -/

namespace Sys2Proof.Machine

/-! The three latches are read by the port writes of an item only: every other operation carries them along. -/

/-- An outcome carries the latches along: where the one answers a next state, the other answers it with the latches. -/
def CarriesLatches (w : Byte) (rsl : Bool) (port : Byte) (k k' : Result) : Prop :=
  ∀ t, k = .next t → k' = .next (t.withLatches w rsl port)

theorem carriesLatches_next {w : Byte} {rsl : Bool} {port : Byte} {t : State} :
    CarriesLatches w rsl port (.next t) (.next (t.withLatches w rsl port)) := by
  rintro _ ⟨⟩
  rfl

theorem carriesLatches_ite {w : Byte} {rsl : Bool} {port : Byte} {c : Prop} [Decidable c] {k k' l l' : Result}
    (hk : CarriesLatches w rsl port k k') (hl : CarriesLatches w rsl port l l') :
    CarriesLatches w rsl port (if c then k else l) (if c then k' else l') := by
  split
  · exact hk
  · exact hl

/-- R73: the checks before an operation read none of the three. -/
theorem carriesLatches_whenNoFault {s : State} {w : Byte} {rsl : Bool} {port : Byte} {k k' : Result}
    (h : CarriesLatches w rsl port k k') :
    CarriesLatches w rsl port (whenNoFault s k) (whenNoFault (s.withLatches w rsl port) k') :=
  carriesLatches_ite carriesLatches_next h

theorem carriesLatches_whenReady {s : State} {w : Byte} {rsl : Bool} {port : Byte} {k k' : Result}
    (h : CarriesLatches w rsl port k k') :
    CarriesLatches w rsl port (whenReady s k) (whenReady (s.withLatches w rsl port) k') :=
  carriesLatches_whenNoFault (carriesLatches_ite h carriesLatches_next)

/-- R79: no request's meaning reads them. -/
theorem carriesLatches_exec {i : Instr} (hi : i.isRequest = true) (s : State) (w : Byte) (rsl : Bool) (port : Byte) :
    CarriesLatches w rsl port (exec i s) (exec i (s.withLatches w rsl port)) := by
  cases i <;> simp only [Instr.isRequest, reduceCtorEq] at hi
  case begin c l =>
    exact carriesLatches_whenNoFault (carriesLatches_ite carriesLatches_next carriesLatches_next)
  case setCursor col row =>
    refine carriesLatches_whenReady (carriesLatches_ite carriesLatches_next ?_)
    have hl : lineOf (clampRow row (s.withLatches w rsl port).numLines) = lineOf (clampRow row s.numLines) := rfl
    rw [hl]
    split
    · exact carriesLatches_next
    · exact fun t h => nomatch h
  case message l text =>
    refine carriesLatches_whenReady ?_
    split <;> exact carriesLatches_next
  all_goals exact carriesLatches_whenReady carriesLatches_next

/-- R14, R30: the writes ahead of the present item do not read these values of the latches, or the state holds the same.
A raw nibble reads neither `W` nor `RSL`, and the first write of an item does not read `PORT`. -/
structure LatchesUnread (s : State) (w : Byte) (rsl : Bool) (port : Byte) : Prop where
  operands : s.ph ≠ .idle → (w = s.w ∧ rsl = s.rsl) ∨
    ((∃ n, s.current = some (.raw n)) ∧ (s.ph = .hiData ∨ s.ph = .hiEn1 ∨ s.ph = .hiEn0))
  shadow : s.ph ≠ .idle → s.ph ≠ .hiData → port = s.port

/-- Two states that differ in the three latches alone, where the writes ahead do not read them. -/
def Twin (s s' : State) : Prop := ∃ w rsl port, s' = s.withLatches w rsl port ∧ LatchesUnread s w rsl port

theorem twin_refl (s : State) : Twin s s :=
  ⟨s.w, s.rsl, s.port, rfl, fun _ => .inl ⟨rfl, rfl⟩, fun _ _ => rfl⟩

/-- R17: with `PH = IDLE` the next item starts afresh. -/
theorem twin_of_idle {s : State} (h : s.ph = .idle) (w : Byte) (rsl : Bool) (port : Byte) :
    Twin s (s.withLatches w rsl port) :=
  ⟨w, rsl, port, rfl, fun hn => absurd h hn, fun hn => absurd h hn⟩

/-- R81, R82, R87: the byte of the coming write. -/
theorem phaseByte_withLatches {s : State} {w : Byte} {rsl : Bool} {port : Byte} (hph : s.ph ≠ .idle)
    (h : LatchesUnread s w rsl port) : (s.withLatches w rsl port).phaseByte = s.phaseByte := by
  by_cases hd : s.ph = .hiData
  · rcases h.operands hph with ⟨rfl, rfl⟩ | ⟨⟨n, hc⟩, -⟩
    · simp only [State.phaseByte, State.withLatches, hd]
      rfl
    · have hc' : (s.withLatches w rsl port).current = some (.raw n) := hc
      have hd' : (s.withLatches w rsl port).ph = .hiData := hd
      simp only [State.phaseByte, hd, hd', State.hiDataByte, hc, hc']
      rfl
  · obtain rfl := h.shadow hph hd
    rcases h.operands hph with ⟨rfl, rfl⟩ | ⟨-, hp⟩
    · rfl
    · have hp' : s.ph = .hiEn1 ∨ s.ph = .hiEn0 := hp.resolve_left hd
      unfold State.phaseByte
      rcases hp' with hp' | hp' <;> simp only [State.withLatches, hp']

/-- R17: advancing the phase carries the latches along. -/
theorem advance_withLatches (s : State) (w : Byte) (rsl : Bool) (port : Byte) :
    (s.withLatches w rsl port).advance = s.advance.withLatches w rsl port := by
  have hc : (s.withLatches w rsl port).current = s.current := rfl
  unfold State.advance
  rw [hc]
  cases hp : s.ph <;> simp only [State.withLatches, hp]
  case hiEn0 => split <;> rfl
  all_goals rfl

/-- R17, R87: the sequencer goes on within the item, or the item ends. -/
theorem LatchesUnread.advance {s : State} {w : Byte} {rsl : Bool} (hph : s.ph ≠ .idle)
    (h : LatchesUnread s w rsl s.port) : LatchesUnread s.advance w rsl s.port := by
  refine ⟨fun hn => ?_, fun _ _ => (advance_writes_nothing s).2.1.symm⟩
  have hl : s.advance.w = s.w ∧ s.advance.rsl = s.rsl := by
    unfold State.advance
    split <;> (try split) <;> exact ⟨rfl, rfl⟩
  rcases h.operands hph with ⟨rfl, rfl⟩ | ⟨⟨n, hc⟩, hp⟩
  · exact .inl ⟨hl.1.symm, hl.2.symm⟩
  · unfold State.advance at hn ⊢
    rcases hp with hp | hp | hp <;> simp only [hp, hc] at hn ⊢
    · exact .inr ⟨⟨n, hc⟩, .inr (.inl rfl)⟩
    · exact .inr ⟨⟨n, hc⟩, .inr (.inr rfl)⟩
    · exact absurd rfl hn

/-- R40, R89: the port write of a phase, on both sides. -/
theorem twin_phaseWrite {s : State} {w : Byte} {rsl : Bool} {port : Byte} (hph : s.ph ≠ .idle)
    (h : LatchesUnread s w rsl port) : Twin s.phaseWrite (s.withLatches w rsl port).phaseWrite := by
  have hb := phaseByte_withLatches hph h
  have ha : (s.withLatches w rsl port).answers = s.answers := rfl
  rcases hcase : s.answers with _ | ⟨_ | ⟨reached, latched⟩, rest⟩ <;>
    simp only [State.phaseWrite, ha, hcase]
  · exact ⟨w, rsl, port, rfl, h⟩
  · let v := ({ s with answers := rest } : State).portWrite s.phaseByte
    have hv : LatchesUnread v w rsl v.port := ⟨h.operands, fun _ _ => rfl⟩
    rw [hb]
    exact ⟨w, rsl, v.port, advance_withLatches v w rsl v.port, hv.advance hph⟩
  · have hf : ({ s.withLatches w rsl port with answers := rest } : State).failWrite reached latched =
        (({ s with answers := rest } : State).failWrite reached latched).withLatches w rsl port := by
      have hb' : ({ s.withLatches w rsl port with answers := rest } : State).phaseByte = s.phaseByte := hb
      unfold State.failWrite
      rw [hb']
      rfl
    rw [hf]
    exact twin_of_idle rfl w rsl port

/-- R41: a delay carries the latches along. -/
theorem delay_withLatches (s : State) (d : Nat) (w : Byte) (rsl : Bool) (port : Byte) :
    (s.withLatches w rsl port).delay d = (s.delay d).withLatches w rsl port := by
  unfold State.delay
  split <;> rfl

/-- R79: the start of an item, or the completion, on both sides. -/
theorem twin_startItem {s t : State} {w : Byte} {rsl : Bool} {port : Byte} (h : startItem s = .next t) :
    ∃ t', startItem (s.withLatches w rsl port) = .next t' ∧ Twin t t' := by
  let s' := s.withLatches w rsl port
  rcases startItem_cases s with ⟨rs, v, hc, hs⟩ | ⟨n, hc, hs⟩ | ⟨d, hc, hs⟩ | ⟨hc, hs⟩ <;>
    obtain rfl := Host.Outcome.next.inj (hs.symm.trans h) <;>
    have hc' : s'.current = _ := hc
  · refine ⟨s'.beginXfer rs v, ?_, ?_⟩
    · simp only [startItem, s', hc']
      exact startWord_eq rs v s'
    · exact twin_phaseWrite (s := { s with w := v, rsl := rs, ph := .hiData, settle := 0 }) (port := port) (by simp)
        ⟨fun _ => .inl ⟨rfl, rfl⟩, fun _ hn => absurd rfl hn⟩
  · refine ⟨s'.beginRaw, by simp only [startItem, s', hc'], ?_⟩
    exact twin_phaseWrite (s := { s with ph := .hiData, settle := 0 }) (w := w) (rsl := rsl) (port := port) (by simp)
      ⟨fun _ => .inr ⟨⟨n, hc⟩, .inl rfl⟩, fun _ hn => absurd rfl hn⟩
  · refine ⟨s'.delayItem d, by simp only [startItem, s', hc'], ?_⟩
    have hd : s'.delayItem d = (s.delayItem d).withLatches w rsl port :=
      congrArg State.nextItem (delay_withLatches s d w rsl port)
    rw [hd]
    exact twin_of_idle rfl w rsl port
  · refine ⟨s'.complete, by simp only [startItem, s', hc'], ?_⟩
    have hd : s'.complete = s.complete.withLatches w rsl port := by
      unfold State.complete
      cases hv : s.verdict <;> simp only [s', State.withLatches, hv] <;> rfl
    have hi : s.complete.ph = .idle := by
      unfold State.complete
      split <;> rfl
    rw [hd]
    exact twin_of_idle hi w rsl port

/-- R83: the wait before a write, on both sides. -/
theorem twin_settleWait {s : State} {w : Byte} {rsl : Bool} {port : Byte} (h : LatchesUnread s w rsl port) :
    Twin s.settleWait (s.withLatches w rsl port).settleWait := by
  have hd : (s.withLatches w rsl port).settleWait = s.settleWait.withLatches w rsl port :=
    congrArg (fun u : State => { u with settle := 0 }) (delay_withLatches s s.settle w rsl port)
  refine ⟨w, rsl, port, hd, ?_⟩
  rw [State.settleWait, delay_eq_emitAll]
  exact ⟨h.operands, fun hn hd => (h.shadow hn hd).trans (lastWrite_waitEvents _ _).symm⟩

/-- R5, R79: the events of a running operation, on both sides. -/
theorem twin_sequence {s s' t : State} (hs : Twin s s') (h : sequence s = .next t) :
    ∃ t', sequence s' = .next t' ∧ Twin t t' := by
  obtain ⟨w, rsl, port, rfl, hl⟩ := hs
  by_cases hph : s.ph = .idle
  · have hph' : (s.withLatches w rsl port).ph = .idle := hph
    rw [sequence_idle hph']
    exact twin_startItem ((sequence_idle hph).symm.trans h)
  · have hph' : (s.withLatches w rsl port).ph ≠ .idle := hph
    obtain rfl := Host.Outcome.next.inj ((sequence_phase hph).symm.trans h)
    refine ⟨_, sequence_phase hph', ?_⟩
    have hset : (s.withLatches w rsl port).settle = s.settle := rfl
    unfold State.phaseEvent
    rw [hset]
    split
    · exact twin_phaseWrite hph hl
    · exact twin_settleWait hl

/-- R62, R73: the request port, on both sides. -/
theorem twin_receive {s s' t : State} (hs : Twin s s') (h : receive s = .next t) :
    ∃ t', receive s' = .next t' ∧ Twin t t' := by
  obtain ⟨w, rsl, port, rfl, hl⟩ := hs
  have hx : (s.withLatches w rsl port).rx ++ (s.withLatches w rsl port).reqIn = s.rx ++ s.reqIn := rfl
  rw [receive, hx]
  rcases receive_cases s with ⟨hd, hr⟩ | ⟨why, rest, hd, hr⟩ | ⟨i, rest, hd, hr⟩ <;> simp only [hd]
  · obtain rfl := Host.Outcome.next.inj (hr.symm.trans h)
    exact ⟨_, rfl, w, rsl, port, rfl, hl.operands, hl.shadow⟩
  · obtain rfl := Host.Outcome.next.inj (hr.symm.trans h)
    refine ⟨_, rfl, ?_⟩
    unfold State.rejectReserved
    cases hf : s.fault <;> simp only [State.withLatches, hf, if_true, if_false, Bool.false_eq_true] <;>
      exact twin_of_idle rfl w rsl port
  · let u : State := { s with rx := [], reqIn := rest }
    have he : exec i u = .next t := hr.symm.trans h
    have hi := decodeRequest_isRequest hd
    have hph : t.ph = .idle := by
      rcases exec_request hi he with ⟨e, rfl, -⟩ | ⟨-, s', items, rfl, -⟩ <;> rfl
    exact ⟨_, carriesLatches_exec hi u w rsl port t he, twin_of_idle hph w rsl port⟩

/-- R5: every step, on both sides. -/
theorem twin_step {s s' t : State} (hs : Twin s s') (h : step s = .next t) : ∃ t', step s' = .next t' ∧ Twin t t' := by
  have hrst' : s'.rst = s.rst := by obtain ⟨w, rsl, port, rfl, -⟩ := hs; rfl
  have hrun' : s'.running = s.running := by obtain ⟨w, rsl, port, rfl, -⟩ := hs; rfl
  cases hrst : s.rst with
  | some r =>
    obtain rfl := Host.Outcome.next.inj ((step_reset hrst).symm.trans h)
    refine ⟨_, step_reset (hrst'.trans hrst), ?_⟩
    obtain ⟨w, rsl, port, rfl, -⟩ := hs
    exact twin_refl (s.applyReset r)
  | none =>
    cases hrun : s.running with
    | true =>
      rw [step_running (hrst'.trans hrst) (hrun'.trans hrun)]
      exact twin_sequence hs ((step_running hrst hrun).symm.trans h)
    | false =>
      rw [step_receive (hrst'.trans hrst) (hrun'.trans hrun)]
      exact twin_receive hs ((step_receive hrst hrun).symm.trans h)

/-- R5: every run, on both sides. -/
theorem twin_runSteps {n : Nat} {s s' t : State} (hs : Twin s s') (h : runSteps n s = .next t) :
    ∃ t', runSteps n s' = .next t' ∧ Twin t t' := by
  induction n generalizing s s' with
  | zero =>
    obtain rfl : s = t := by simpa using h
    exact ⟨s', rfl, hs⟩
  | succ n ih =>
    simp only [runSteps] at h
    cases hu : step s with
    | next u =>
      rw [hu] at h
      obtain ⟨u', hu', htw⟩ := twin_step hs hu
      rw [runSteps_succ hu']
      exact ih htw h
    | fault r => rw [hu] at h; cases h
    | refused r => rw [hu] at h; cases h

/-- Settles O57: the two runs stay twins, by induction on the number of steps. -/
theorem unspecifiedLatchesAreUnobservable : Obligations.UnspecifiedLatchesAreUnobservable := by
  intro s t w rsl port n hph h
  obtain ⟨t', ht', w', rsl', port', rfl, -⟩ := twin_runSteps (twin_of_idle hph w rsl port) h
  exact ⟨_, ht', rfl, rfl, rfl, rfl, rfl⟩

end Sys2Proof.Machine
end

section
/-! PROOFS. What the events of an expansion leave in the environment, and what a whole expansion leaves. -/

namespace Sys2Proof.Machine

/-- R34(a), R38: the expander holds the byte of the last successful write. -/
theorem foldl_after_expLatch (p : Params) (e : Env) (es : List Event) :
    (es.foldl (Env.after p) e).expLatch = lastWrite e.expLatch es := by
  induction es generalizing e with
  | nil => rfl
  | cons ev es ih =>
    rw [List.foldl_cons, ih, ← List.singleton_append, lastWrite_append]
    cases ev <;> rfl

/-- R173: the port writes of an expansion are those of its items. -/
theorem length_writesOf_eventsOf (p : Params) (bl : Bool) (items : List Item) :
    (writesOf (eventsOf p bl items)).length = writeCount items := by
  induction items with
  | nil => rfl
  | cons it items ih =>
    have he : eventsOf p bl (it :: items) = it.events p bl ++ eventsOf p bl items := rfl
    rw [he, writesOf_append, List.length_append, length_writesOf_events, ih]
    simp [writeCount]

/-- R79, R86, R87: an item leaves its events, and of the rest of the state only latches and environment differ. -/
theorem afterItem_frame (s : State) (it : Item) :
    ∃ w rsl env, s.afterItem it = { s.emitAll (it.events s.cfg s.bl) with w := w, rsl := rsl, env := env } ∧
      env.expLatch = lastWrite s.env.expLatch (it.events s.cfg s.bl) := by
  rw [afterItem_eq]
  cases it <;> exact ⟨_, _, _, rfl, (owe_expLatch _ _ _).trans (foldl_after_expLatch _ _ _)⟩

/-- R79: so does an expansion, item after item. -/
theorem foldl_afterItem_frame (s : State) (items : List Item) :
    ∃ w rsl env,
      items.foldl State.afterItem s =
        { s.emitAll (eventsOf s.cfg s.bl items) with w := w, rsl := rsl, env := env } ∧
      env.expLatch = lastWrite s.env.expLatch (eventsOf s.cfg s.bl items) := by
  induction items generalizing s with
  | nil => exact ⟨s.w, s.rsl, s.env, (emitAll_nil s).symm, rfl⟩
  | cons it items ih =>
    obtain ⟨w, rsl, env, hs, he⟩ := afterItem_frame s it
    obtain ⟨w', rsl', env', hs', he'⟩ := ih (s.afterItem it)
    have hev : eventsOf s.cfg s.bl (it :: items) = it.events s.cfg s.bl ++ eventsOf s.cfg s.bl items := rfl
    refine ⟨w', rsl', env', ?_, ?_⟩
    · rw [List.foldl_cons, hs', hs, hev, ← emitAll_emitAll]
      rfl
    · rw [he', hs, hev, lastWrite_append, ← he]
      rfl

/-- Settles O38: the items' events and the completion. -/
theorem finishedOperationFrame : Obligations.FinishedOperationFrame := by
  intro s items
  obtain ⟨w, rsl, env, hs, he⟩ := foldl_afterItem_frame s items
  simp only [State.finish, hs]
  refine ⟨rfl, rfl, he, rfl, rfl, rfl, ?_, rfl, rfl, rfl, rfl⟩
  exact congrArg (s.answers.drop ·) (length_writesOf_eventsOf s.cfg s.bl items)

/-- R83: a strobe leaves its data byte in `PORT`. -/
@[simp] theorem lastWrite_strobeEvents (p : Params) (b c : Byte) : lastWrite b (strobeEvents p c) = c := by
  simp [lastWrite]

/-- R83: a strobe has three writes and its waits. -/
theorem length_strobeEvents (p : Params) (b : Byte) : (strobeEvents p b).length = 3 + strobeWaits p := by
  simp only [strobeEvents, strobeWaits, List.length_append, List.length_cons, List.length_nil]
  omega

/-- Settles O36: the raw nibble's run, its state written out. -/
theorem rawNibbleMakesThreeWrites : Obligations.RawNibbleMakesThreeWrites := by
  intro s n rest hwf hrst hrun hph hcur hans r wait es
  have hes : es = Item.events s.cfg s.bl (.raw n) := by
    simp [es, wait, r, Item.events, strobeEvents, waitEvents, rawByte, lineBit]
  have hlen : es.length = 3 + strobeWaits s.cfg := by
    rw [hes]
    exact length_strobeEvents _ _
  have hend := raw_runs hwf hrst hrun hph hcur ⟨rest, hans⟩
  have hlast : ∀ b, lastWrite b (Item.events s.cfg s.bl (.raw n)) = r := fun b => lastWrite_strobeEvents _ b _
  have hleft : s.answers.drop (writesOf (Item.events s.cfg s.bl (.raw n))).length = rest := by
    rw [length_writesOf_events, hans]
    rfl
  refine ⟨_, hlen ▸ hend, ?_, ?_⟩
  · simp only [State.endItem, State.nextItem, State.emitAll, State.latch, hlast, hleft, hes, ← hph]
  · exact (owed_expLatch _).trans ((foldl_after_expLatch _ _ _).trans (hlast _))

/-! R34(c), R161 to R163: the wait owed to the controller. -/

/-- R34(c): no event of an operation adds to the wait owed. -/
theorem foldl_after_busyTime_le (p : Params) (e : Env) (es : List Event) :
    (es.foldl (Env.after p) e).busyTime ≤ e.busyTime := by
  induction es generalizing e with
  | nil => exact Nat.le_refl _
  | cons ev es ih =>
    refine (ih (e.after p ev)).trans ?_
    cases ev with
    | write b => exact Nat.le_refl _
    | writeFail b => exact Nat.le_refl _
    | delay t => exact Nat.sub_le _ _

/-- R161, R162: the wait a word owes. -/
def wordOwes (p : Params) (rs : Bool) (w : Byte) : Nat :=
  if !rs && (w == p.clearDisplay || w == p.returnHome) then Config.tClearHome else p.tCmd

theorem wordOwes_cases (p : Params) (rs : Bool) (w : Byte) : wordOwes p rs w = 3000 ∨ wordOwes p rs w = p.tCmd := by
  unfold wordOwes
  split
  · exact .inl rfl
  · exact .inr rfl

theorem wordOwes_command {p : Params} {w : Byte} (h : w = p.clearDisplay ∨ w = p.returnHome) :
    wordOwes p false w = 3000 := by
  simp [wordOwes, h, Config.tClearHome]

/-- R34(c): what is owed after a word is the word's wait, or what is left of an older one. -/
theorem busyTime_afterItem_xfer (s : State) (rs : Bool) (w : Byte) :
    ∃ b ≤ s.env.busyTime, (s.afterItem (.xfer rs w)).env.busyTime = max b (wordOwes s.cfg rs w) :=
  ⟨_, foldl_after_busyTime_le _ _ _, rfl⟩

/-- R88: a delay is waited out. -/
theorem busyTime_afterItem_delay (s : State) (t : Nat) :
    (s.afterItem (.delay t)).env.busyTime = s.env.busyTime - t := by
  by_cases ht : t = 0
  · subst ht
    rfl
  · simp [State.afterItem, Item.events, waitEvents, ht, Env.after, Env.wait, Env.owe]

/-- The parameters of a state through an expansion. -/
theorem foldl_afterItem_cfg (s : State) (items : List Item) : (items.foldl State.afterItem s).cfg = s.cfg := by
  obtain ⟨w, rsl, env, hs, -⟩ := foldl_afterItem_frame s items
  rw [hs]
  rfl

/-- R34(c): a state with these parameters that owes the controller at most this wait. -/
def OwesAtMost (p : Params) (n : Nat) (s : State) : Prop := s.cfg = p ∧ s.env.busyTime ≤ n

theorem OwesAtMost.mono {p : Params} {m n : Nat} {s : State} (h : OwesAtMost p m s) (hmn : m ≤ n) : OwesAtMost p n s :=
  ⟨h.1, h.2.trans hmn⟩

/-- R163: the power-up path waits the raw nibble's wait out. -/
theorem OwesAtMost.powerUpItems {p : Params} {s : State} (h : OwesAtMost p 0 s) (pwrup : Bool) :
    OwesAtMost p 0 ((powerUpItems p pwrup).foldl State.afterItem s) := by
  refine ⟨(foldl_afterItem_cfg _ _).trans h.1, ?_⟩
  cases pwrup with
  | false => exact h.2
  | true =>
    have hraw : (s.afterItem (.raw p.initNibble)).env.busyTime ≤ 10000 :=
      max_le (((foldl_after_busyTime_le _ _ _).trans h.2).trans (Nat.zero_le _)) (Nat.le_refl _)
    have hd := busyTime_afterItem_delay (s.afterItem (.raw p.initNibble)) Config.tPwrUp
    exact hd.trans_le (Nat.sub_eq_zero_of_le hraw).le

/-- R11, R161: a word with its `T_CMD` leaves at most the wait of a CLEARDISPLAY. -/
theorem OwesAtMost.wordItems {p : Params} {s : State} (h : OwesAtMost p 3000 s) (rs : Bool) (w : Byte) :
    OwesAtMost p 3000 ((wordItems p rs w).foldl State.afterItem s) := by
  refine ⟨(foldl_afterItem_cfg _ _).trans h.1, ?_⟩
  obtain ⟨rfl, hle⟩ := h
  obtain ⟨b, hb, hw⟩ := busyTime_afterItem_xfer s rs w
  have ho := wordOwes_cases s.cfg rs w
  unfold Machine.wordItems delayItems
  split
  · rw [List.foldl_cons, List.foldl_nil, hw]
    omega
  · rw [List.foldl_cons, List.foldl_cons, List.foldl_nil, busyTime_afterItem_delay, hw]
    omega

/-- R161: CLEARDISPLAY or RETURNHOME with the delay after it leaves nothing owed. -/
theorem OwesAtMost.command_delay {p : Params} {s : State} (h : OwesAtMost p 3000 s) {w : Byte}
    (hw : w = p.clearDisplay ∨ w = p.returnHome) :
    OwesAtMost p 0 ([.xfer false w, .delay Config.tClearHome].foldl State.afterItem s) := by
  refine ⟨(foldl_afterItem_cfg _ _).trans h.1, ?_⟩
  obtain ⟨rfl, hle⟩ := h
  obtain ⟨b, hb, hx⟩ := busyTime_afterItem_xfer s false w
  rw [wordOwes_command hw] at hx
  rw [List.foldl_cons, List.foldl_cons, List.foldl_nil, busyTime_afterItem_delay, hx, Config.tClearHome]
  omega

theorem OwesAtMost.clearItems {p : Params} {s : State} (h : OwesAtMost p 3000 s) :
    OwesAtMost p 0 ((clearItems p).foldl State.afterItem s) := h.command_delay (.inl rfl)

theorem OwesAtMost.homeItems {p : Params} {s : State} (h : OwesAtMost p 3000 s) :
    OwesAtMost p 0 ((homeItems p).foldl State.afterItem s) := h.command_delay (.inr rfl)

/-- R121, R161, R163: INIT's delays cover whatever its words have left. -/
theorem OwesAtMost.initItems {s : State} (h : OwesAtMost s.cfg 0 s) :
    OwesAtMost s.cfg 0 ((initItems s).foldl State.afterItem s) := by
  simp only [Machine.initItems, List.foldl_append]
  have hraw := (h.powerUpItems s.pwrup).mono (Nat.zero_le 3000)
  have hwords := ((hraw.wordItems false (functionSetWord s)).wordItems false (displayControlWord s)).wordItems false
    (entryModeSetWord s)
  exact (hwords.clearItems.mono (Nat.zero_le 3000)).homeItems

/-- R161, R162: a bare CLEARDISPLAY or RETURNHOME leaves its wait owed. -/
theorem busyTime_command {s : State} (h : s.env.busyTime = 0) {w : Byte}
    (hw : w = s.cfg.clearDisplay ∨ w = s.cfg.returnHome) : (s.afterItem (.xfer false w)).env.busyTime = 3000 := by
  obtain ⟨b, hb, hx⟩ := busyTime_afterItem_xfer s false w
  rw [hx, wordOwes_command hw]
  omega

/-- Settles O53: what each expansion owes at its end, item by item. -/
theorem settleTimeIsWaitedOut : Obligations.SettleTimeIsWaitedOut := by
  intro s h
  have h0 : OwesAtMost s.cfg 0 s := ⟨rfl, h.le⟩
  have h3 := h0.mono (Nat.zero_le 3000)
  exact ⟨Nat.le_zero.mp h3.clearItems.2, Nat.le_zero.mp h3.homeItems.2, Nat.le_zero.mp h0.initItems.2,
    busyTime_command h (.inl rfl), busyTime_command h (.inr rfl)⟩

end Sys2Proof.Machine
end

section
/-! PROOFS. A port write of an item that the transport fails, and the controller's side of it. -/

namespace Sys2Proof.Machine

/-! R34(c), R143: the wait owed when a write ends a transfer, or fails. -/

theorem owed_busyTime_xfer {s : State} {rs : Bool} {w : Byte} (hc : s.current = some (.xfer rs w)) :
    s.owed.busyTime = max s.env.busyTime (wordOwes s.cfg rs w) := by
  simp only [State.owed, hc]
  rfl

theorem owed_busyTime_raw {s : State} {n : Nibble} (hc : s.current = some (.raw n)) :
    s.owed.busyTime = max s.env.busyTime 10000 := by
  simp only [State.owed, hc]
  rfl

/-- R143, R161: a failed write owes the item's wait if the controller latched the item's last nibble at it. -/
theorem failWrite_busyTime (s : State) (reached latched : Bool) :
    (s.failWrite reached latched).env.busyTime =
      if latched && s.lastNibble then s.owed.busyTime else s.env.busyTime := by
  have ho : (s.portWriteFailed s.phaseByte reached latched).owed.busyTime = s.owed.busyTime := by
    have hc : (s.portWriteFailed s.phaseByte reached latched).current = s.current := rfl
    unfold State.owed
    rw [hc]
    split
    · obtain ⟨k, hk⟩ := owe_eq s.cfg ‹Item›
      rw [portWriteFailed_cfg, hk, hk]
      rfl
    · rfl
  have hl : (s.portWriteFailed s.phaseByte reached latched).lastNibble = s.lastNibble := rfl
  unfold State.failWrite
  simp only [raise_env, hl]
  split
  · exact ho
  · rfl

/-- R89: the step in which a phase's write fails. -/
theorem step_writeFails {s : State} {reached latched : Bool} {rest : List Answer} (h : s.rst = none)
    (hr : s.running = true) (hp : s.ph ≠ .idle) (hw : s.settle = 0) (ha : s.answers = .error reached latched :: rest) :
    step s = .next (({ s with answers := rest } : State).failWrite reached latched) := by
  rw [step_write h hr hp hw, State.phaseWrite, ha]

/-- R89, R143, R161: the wait owed after that step. -/
theorem step_writeFails_busyTime {s : State} {reached latched : Bool} {rest : List Answer} (h : s.rst = none)
    (hr : s.running = true) (hp : s.ph ≠ .idle) (hw : s.settle = 0) (ha : s.answers = .error reached latched :: rest) :
    ∃ t, step s = .next t ∧ t.busy = false ∧
      t.env.busyTime = if latched && s.lastNibble then s.owed.busyTime else s.env.busyTime :=
  ⟨_, step_writeFails h hr hp hw ha, rfl, failWrite_busyTime { s with answers := rest } reached latched⟩

/-- R143, R161: after the low nibble's EN-cleared write the item's wait is owed, before the release. -/
theorem step_loEn0_ok {s : State} {rest : List Answer} (h : s.rst = none) (hr : s.running = true) (hp : s.ph = .loEn0)
    (hw : s.settle = 0) (ha : s.answers = .ok :: rest) :
    step s = .next ((s.emitAll [.write s.phaseByte]).owing.nextPhase .release) := by
  rw [step_write h hr (by simp [hp]) hw, phaseWrite_ok ha]
  simp only [State.advance, show (s.emitAll [.write s.phaseByte]).ph = .loEn0 from hp]
  rfl

/-- Settles O55: the wait is owed from the last nibble's latching on, by the phase and the transport's answer. -/
theorem latchedCommandOwesItsWait : Obligations.LatchedCommandOwesItsWait := by
  constructor
  · intro s w hrst hrun hset hcur hw
    have howed : s.owed.busyTime = max s.env.busyTime 3000 := by rw [owed_busyTime_xfer hcur, wordOwes_command hw]
    refine ⟨fun rest hp ha => ?_, fun reached latched rest hp ha => ?_, fun reached latched rest hp ha => ?_⟩
    · refine ⟨_, step_loEn0_ok hrst hrun hp hset ha, rfl, ?_⟩
      have ho := owed_busyTime_xfer (s := s.emitAll [.write s.phaseByte]) hcur
      rw [emitAll_cfg, wordOwes_command hw] at ho
      exact (le_max_right _ _).trans ho.ge
    · have hl : s.lastNibble = true := by simp only [State.lastNibble, hcur, hp]
      have hend := step_writeFails_busyTime hrst hrun (by simp [hp]) hset ha
      rwa [hl, Bool.and_true, howed] at hend
    · have hl : s.lastNibble = false := by simp only [State.lastNibble, hcur, hp]
      have hend := step_writeFails_busyTime hrst hrun (by simp [hp]) hset ha
      simpa only [hl, Bool.and_false, Bool.false_eq_true, if_false] using hend
  · intro s n reached latched rest hrst hrun hset hcur hp ha
    have hl : s.lastNibble = true := by simp only [State.lastNibble, hcur, hp]
    have hend := step_writeFails_busyTime hrst hrun (by simp [hp]) hset ha
    rwa [hl, Bool.and_true, owed_busyTime_raw hcur] at hend

/-! A run that ends with a failed write. -/

/-- R34(a), R34(b): two environments that differ at most in the wait owed. -/
def SameLines (e f : Env) : Prop := e.expLatch = f.expLatch ∧ e.ctrlNib = f.ctrlNib

theorem SameLines.trans {e f g : Env} (h : SameLines e f) (h' : SameLines f g) : SameLines e g :=
  ⟨h.1.trans h'.1, h.2.trans h'.2⟩

theorem SameLines.after {p : Params} {e f : Env} (h : SameLines e f) (ev : Event) :
    SameLines (e.after p ev) (f.after p ev) := by
  obtain ⟨hx, hc⟩ := h
  cases ev with
  | write b => exact ⟨rfl, by simp only [Env.after, Env.take, hx, hc]⟩
  | writeFail b => exact ⟨hx, hc⟩
  | delay t => exact ⟨hx, hc⟩

theorem SameLines.foldl_after {p : Params} {e f : Env} (h : SameLines e f) (es : List Event) :
    SameLines (es.foldl (Env.after p) e) (es.foldl (Env.after p) f) := by
  induction es generalizing e f with
  | nil => exact h
  | cons ev es ih => exact ih (h.after ev)

theorem SameLines.takeFailed {e f : Env} (h : SameLines e f) (b : Byte) (reached latched : Bool) :
    SameLines (e.takeFailed b reached latched) (f.takeFailed b reached latched) := by
  obtain ⟨hx, hc⟩ := h
  exact ⟨by simp only [Env.takeFailed, hx], by simp only [Env.takeFailed, hc]⟩

/-- R34(c): owing a wait touches no line. -/
theorem sameLines_owed (s : State) : SameLines s.owed s.env := by
  unfold State.owed
  split
  · obtain ⟨k, hk⟩ := owe_eq s.cfg ‹Item›
    rw [hk]
    exact ⟨rfl, rfl⟩
  · exact ⟨rfl, rfl⟩

@[simp] theorem failAt_delay (k t : Nat) (es : List Event) : failAt k (.delay t :: es) = .delay t :: failAt k es := by
  cases k <;> rfl

@[simp] theorem failAt_writeFail (k : Nat) (b : Byte) (es : List Event) :
    failAt k (.writeFail b :: es) = .writeFail b :: failAt k es := by
  cases k <;> rfl

@[simp] theorem failAt_succ_write (k : Nat) (b : Byte) (es : List Event) :
    failAt (k + 1) (.write b :: es) = .write b :: failAt k es := rfl

@[simp] theorem failAt_zero_write (b : Byte) (es : List Event) : failAt 0 (.write b :: es) = [.writeFail b] := rfl

/-- R89: the failed write is among the first events: what would follow is not reached. -/
theorem failAt_append_left {k : Nat} {es : List Event} (h : k < (writesOf es).length) (fs : List Event) :
    failAt k (es ++ fs) = failAt k es := by
  induction es generalizing k with
  | nil => exact absurd h (Nat.not_lt_zero k)
  | cons ev es ih =>
    cases ev with
    | write b =>
      cases k with
      | zero => rfl
      | succ k => simpa using ih (Nat.lt_of_succ_lt_succ h)
    | writeFail b => simpa using ih h
    | delay t => simpa using ih h

/-- R89: the failed write comes after the first events: they all happened. -/
theorem failAt_append_right (k : Nat) (es fs : List Event) :
    failAt ((writesOf es).length + k) (es ++ fs) = es ++ failAt k fs := by
  induction es with
  | nil => simp [writesOf]
  | cons ev es ih =>
    cases ev with
    | write b => simpa [writesOf, Nat.add_right_comm] using ih
    | writeFail b => simpa [writesOf] using ih
    | delay t => simpa [writesOf] using ih

/-- R89: some event is the failed write's, or the last before it. -/
theorem failAt_ne_nil (k : Nat) {es : List Event} (h : es ≠ []) : failAt k es ≠ [] := by
  cases es with
  | nil => exact absurd rfl h
  | cons ev es => cases ev <;> cases k <;> simp

/-- R89: the successful writes of a run that fails at write `k` are the first `k`. -/
theorem writesOf_failAt (k : Nat) (es : List Event) : writesOf (failAt k es) = (writesOf es).take k := by
  induction es generalizing k with
  | nil => simp [failAt, writesOf]
  | cons ev es ih =>
    cases ev with
    | write b => cases k <;> simp [writesOf, ih]
    | writeFail b => simp [writesOf, ih]
    | delay t => simp [writesOf, ih]

/-- R89, R139, R143: from the state `u`, in which the sequencer stands before the events `es` of the state `s`, the
transport fails the write number `k` of them: the events up to there happen, and the operation is abandoned. -/
def FailsAt (s u : State) (es : List Event) (k : Nat) (reached latched : Bool) : Prop :=
  ∃ env b, (writesOf es)[k]? = some b ∧
    SameLines env (((failAt k es).foldl (Env.after s.cfg) s.env).takeFailed b reached latched) ∧
    runSteps (failAt k es).length u =
      .next (({ s.emitAll (failAt k es) with answers := s.answers.drop (k + 1), env := env } : State).raise .transport)

/-- R89: events that would follow the failed write make no difference. -/
theorem FailsAt.append_left {s u : State} {es : List Event} {k : Nat} {reached latched : Bool}
    (h : FailsAt s u es k reached latched) (fs : List Event) : FailsAt s u (es ++ fs) k reached latched := by
  obtain ⟨env, b, hb, he, hrun⟩ := h
  obtain ⟨hk, -⟩ := List.getElem?_eq_some_iff.mp hb
  refine ⟨env, b, ?_, ?_, ?_⟩
  · rw [writesOf_append, List.getElem?_append_left hk, hb]
  · rwa [failAt_append_left hk]
  · rwa [failAt_append_left hk]

/-- R89: events that happen before those among which a write fails. -/
theorem FailsAt.append_right {s s₁ u u₁ : State} {es fs : List Event} {k : Nat} {reached latched : Bool} {env₁ : Env}
    (hrun : runSteps es.length u = .next u₁) (hs₁ : s₁ = { s.emitAll es with env := env₁ })
    (he₁ : SameLines env₁ (es.foldl (Env.after s.cfg) s.env)) (h : FailsAt s₁ u₁ fs k reached latched) :
    FailsAt s u (es ++ fs) ((writesOf es).length + k) reached latched := by
  obtain ⟨env, b, hb, he, hrun₁⟩ := h
  subst hs₁
  refine ⟨env, b, ?_, ?_, ?_⟩
  · rw [writesOf_append, List.getElem?_append_right (Nat.le_add_right _ _), Nat.add_sub_cancel_left, hb]
  · rw [failAt_append_right, List.foldl_append]
    exact he.trans ((he₁.foldl_after _).takeFailed b reached latched)
  · rw [failAt_append_right, List.length_append, runSteps_add hrun, hrun₁]
    simp [State.emitAll, State.raise, List.drop_drop, Nat.add_assoc]

/-- R89, R139: the write of a state fails: one event, no write more, and the error entry. -/
theorem failWrite_emitAll (s : State) (rest : List Answer) (reached latched : Bool) :
    ∃ env, SameLines env (s.env.takeFailed s.phaseByte reached latched) ∧
      ({ s with answers := rest } : State).failWrite reached latched =
        ({ s.emitAll [.writeFail s.phaseByte] with answers := rest, env := env } : State).raise .transport := by
  refine ⟨_, ?_, rfl⟩
  let t := ({ s with answers := rest } : State).portWriteFailed s.phaseByte reached latched
  show SameLines (if latched && t.lastNibble then t.owed else t.env) t.env
  split
  · exact sameLines_owed t
  · exact ⟨rfl, rfl⟩

/-- R83: a phase's wait and its write. -/
def State.phaseEvents (s : State) (ph : Phase) : List Event :=
  waitEvents (settleBefore s.cfg ph) ++ [.write (s.atPhase ph).phaseByte]

@[simp] theorem writesOf_phaseEvents (s : State) (ph : Phase) :
    writesOf (s.phaseEvents ph) = [(s.atPhase ph).phaseByte] := by
  simp [State.phaseEvents, writesOf]

/-- R83, R89: a phase whose write fails. -/
theorem phase_fails {s : State} {ph : Phase} {reached latched : Bool} {rest : List Answer} (h : s.rst = none)
    (hr : s.running = true) (hp : ph ≠ .idle) (ha : s.answers = .error reached latched :: rest) :
    FailsAt s (s.nextPhase ph) (s.phaseEvents ph) 0 reached latched := by
  let ws := waitEvents (settleBefore s.cfg ph)
  let t := (s.emitAll ws).atPhase ph
  have hw : (writesOf ws).length = 0 := by simp [ws]
  have hb : t.phaseByte = (s.atPhase ph).phaseByte := by
    simp only [State.phaseByte, t, ws, State.atPhase, State.emitAll, lastWrite_waitEvents]
    rfl
  have hat : t.answers = .error reached latched :: rest := by
    show s.answers.drop (writesOf ws).length = _
    rw [hw, ha]
    rfl
  have hfail : failAt 0 (s.phaseEvents ph) = ws ++ [.writeFail t.phaseByte] := by
    have := failAt_append_right 0 ws [.write (s.atPhase ph).phaseByte]
    rw [hw] at this
    rw [hb]
    exact this
  obtain ⟨env, he, hf⟩ := failWrite_emitAll t rest reached latched
  refine ⟨env, t.phaseByte, ?_, ?_, ?_⟩
  · rw [writesOf_phaseEvents, hb]
    rfl
  · rw [hfail, List.foldl_append]
    exact he
  · have hs := step_writeFails (s := t) h hr hp rfl hat
    have hdrop : s.answers.drop (0 + 1) = rest := by rw [ha]; rfl
    rw [hfail, List.length_append, runSteps_add (settle_runs h hr hp)]
    refine (runSteps_succ (n := 0) hs).trans ?_
    rw [runSteps_zero, hf, hdrop, ← emitAll_emitAll]
    rfl

/-- R17, R89: a phase whose write succeeds, before one of the phases after it fails. -/
theorem phase_then_fails {s : State} {ph ph' : Phase} {reached latched : Bool} {fs : List Event} {k : Nat}
    (h : s.rst = none) (hr : s.running = true) (hp : ph ≠ .idle) (ha : Answered s 1)
    (hadv : ((s.emitAll (s.phaseEvents ph)).atPhase ph).advance = (s.emitAll (s.phaseEvents ph)).nextPhase ph')
    (hf : FailsAt (s.emitAll (s.phaseEvents ph)) ((s.emitAll (s.phaseEvents ph)).nextPhase ph') fs k reached latched) :
    FailsAt s (s.nextPhase ph) (s.phaseEvents ph ++ fs) (k + 1) reached latched := by
  have hrun : runSteps (s.phaseEvents ph).length (s.nextPhase ph) =
      .next ((s.emitAll (s.phaseEvents ph)).nextPhase ph') := by
    rw [State.phaseEvents, List.length_append]
    exact (phase_runs h hr hp (n := 0) ha).trans (congrArg _ hadv)
  have := FailsAt.append_right hrun rfl ⟨rfl, rfl⟩ hf
  rwa [writesOf_phaseEvents, List.length_singleton, Nat.add_comm] at this

/-- R40: the transport answers the next `k` port writes with success and fails the one after them. -/
def FailsAfter (s : State) (k : Nat) (reached latched : Bool) : Prop :=
  ∃ rest, s.answers = List.replicate k .ok ++ .error reached latched :: rest

theorem FailsAfter.answered {s : State} {m k : Nat} {reached latched : Bool}
    (h : FailsAfter s (m + k) reached latched) : Answered s m := by
  obtain ⟨rest, h⟩ := h
  exact ⟨List.replicate k .ok ++ .error reached latched :: rest,
    by rw [h, List.replicate_add, List.append_assoc]⟩

theorem FailsAfter.emitAll {s : State} {es : List Event} {k : Nat} {reached latched : Bool}
    (h : FailsAfter s ((writesOf es).length + k) reached latched) : FailsAfter (s.emitAll es) k reached latched := by
  obtain ⟨rest, h⟩ := h
  refine ⟨rest, ?_⟩
  rw [emitAll_answers, h, List.replicate_add, List.append_assoc, List.drop_left' List.length_replicate]

/-- R82, R83, R89: one of the three writes of a nibble fails. -/
theorem strobe_fails {s : State} (half : Half) {k : Nat} {reached latched : Bool} (h : s.rst = none)
    (hr : s.running = true) (hen : EnClear s.cfg (s.dataByte half)) (hk : k < 3) (ha : FailsAfter s k reached latched) :
    FailsAt s (s.nextPhase half.dataPhase)
      (waitEvents (settleBefore s.cfg half.dataPhase) ++ strobeEvents s.cfg (s.dataByte half)) k reached latched := by
  obtain ⟨hd, hset, hc⟩ := half.phases_ne_idle
  let s₁ := s.emitAll (s.phaseEvents half.dataPhase)
  let s₂ := s₁.emitAll (s₁.phaseEvents half.setPhase)
  have hp₁ : s₁.port = s.dataByte half := by simp [s₁, State.phaseEvents, State.dataByte]
  have hp₂ : s₂.port = withEn s.cfg (s.dataByte half) := by
    have hcfg : s₁.cfg = s.cfg := rfl
    simp [s₂, State.phaseEvents, phaseByte_setPhase, hp₁, hcfg]
  have hev : waitEvents (settleBefore s.cfg half.dataPhase) ++ strobeEvents s.cfg (s.dataByte half) =
      s.phaseEvents half.dataPhase ++ (s₁.phaseEvents half.setPhase ++ s₂.phaseEvents half.clearPhase) := by
    have h₁ : s₁.phaseEvents half.setPhase =
        waitEvents s.cfg.tSu ++ [.write (withEn s.cfg (s.dataByte half))] := by
      rw [State.phaseEvents, settleBefore_setPhase, phaseByte_setPhase, hp₁]
      rfl
    have h₂ : s₂.phaseEvents half.clearPhase = waitEvents s.cfg.tPw ++ [.write (s.dataByte half)] := by
      rw [State.phaseEvents, settleBefore_clearPhase, phaseByte_clearPhase, hp₂]
      exact congrArg (fun b => waitEvents s.cfg.tPw ++ [.write b]) (withoutEn_withEn hen)
    rw [h₁, h₂]
    simp [State.phaseEvents, strobeEvents, State.dataByte, withEn]
  rw [hev]
  match k, hk with
  | 0, _ =>
    obtain ⟨rest, ha⟩ := ha
    exact (phase_fails h hr hd ha).append_left _
  | 1, _ =>
    obtain ⟨rest, ha₁⟩ : FailsAfter s₁ 0 reached latched := FailsAfter.emitAll (by simpa using ha)
    exact phase_then_fails h hr hd (ha.answered (k := 0)) (advance_dataPhase _ _)
      ((phase_fails (s := s₁) h hr hset ha₁).append_left _)
  | 2, _ =>
    have ha₁ : FailsAfter s₁ 1 reached latched := FailsAfter.emitAll (by simpa using ha)
    obtain ⟨rest, ha₂⟩ : FailsAfter s₂ 0 reached latched := FailsAfter.emitAll (by simpa using ha₁)
    exact phase_then_fails h hr hd (ha.answered (k := 1)) (advance_dataPhase _ _)
      (phase_then_fails (s := s₁) h hr hset (ha₁.answered (k := 0)) (advance_setPhase _ _)
        (phase_fails (s := s₂) h hr hc ha₂))

/-- R82, R89: one of the seven writes of a word transfer fails, from the phase `HI_DATA` of the latched word on. -/
theorem xfer_fails {s : State} {rs : Bool} {w : Byte} {k : Nat} {reached latched : Bool} (hwf : s.cfg.wfMasks = true)
    (h : s.rst = none) (hr : s.running = true) (hc : s.current = some (.xfer rs w)) (hk : k < 7)
    (ha : FailsAfter s k reached latched) :
    FailsAt (s.latch (.xfer rs w)) ((s.latch (.xfer rs w)).nextPhase .hiData) (Item.events s.cfg s.bl (.xfer rs w)) k
      reached latched := by
  let b := s.latch (.xfer rs w)
  let hi := strobeEvents s.cfg (hiByte s.cfg rs s.bl w)
  let lo := waitEvents s.cfg.tH ++ strobeEvents s.cfg (loByte s.cfg rs s.bl w)
  let rel := waitEvents s.cfg.tH ++ [.write (releaseByte s.cfg s.bl)]
  have hev : Item.events s.cfg s.bl (.xfer rs w) = hi ++ (lo ++ rel) := by simp [Item.events, hi, lo, rel]
  have hHi : (writesOf hi).length = 3 := by simp [hi]
  have hLo : (writesOf lo).length = 3 := by simp [lo]
  have hb : b.hiDataByte = hiByte s.cfg rs s.bl w := by
    simp only [State.hiDataByte, b, latch_current, hc]
    rfl
  have hen : EnClear b.cfg b.hiDataByte := hb ▸ hiByte_enClear hwf rs s.bl w
  have hab : FailsAfter b k reached latched := ha
  rw [hev]
  rcases Nat.lt_or_ge k 3 with hk3 | hk3
  · have hf := strobe_fails (s := b) .high h hr hen hk3 hab
    rw [show b.dataByte .high = _ from hb] at hf
    exact hf.append_left _
  obtain ⟨j, rfl⟩ := Nat.exists_eq_add_of_le hk3
  have hHiRun : runSteps hi.length (b.nextPhase .hiData) = .next ((b.emitAll hi).nextPhase .loData) := by
    have hrun := strobe_high_runs (s := b) h hr hen (n := 0) hab.answered
    rw [hb] at hrun
    rw [length_strobeEvents]
    exact hrun.trans (congrArg _ (advance_hiEn0 (s := b.emitAll hi) (it := .xfer rs w) hc))
  have ha₁ : FailsAfter (b.emitAll hi) j reached latched := FailsAfter.emitAll (s := b) (by rwa [hHi])
  rw [← hHi]
  refine FailsAt.append_right hHiRun rfl ⟨rfl, rfl⟩ ?_
  rcases Nat.lt_or_ge j 3 with hj3 | hj3
  · exact (strobe_fails (s := b.emitAll hi) .low h hr (loByte_enClear hwf rs s.bl w) hj3 ha₁).append_left rel
  obtain ⟨i, rfl⟩ := Nat.exists_eq_add_of_le hj3
  obtain rfl : i = 0 := by omega
  have hLoRun : runSteps lo.length ((b.emitAll hi).nextPhase .loData) =
      .next (((b.emitAll hi).emitAll lo).owing.nextPhase .release) := by
    rw [List.length_append, length_strobeEvents]
    exact strobe_low_runs (s := b.emitAll hi) (n := 0) h hr (loByte_enClear hwf rs s.bl w) ha₁.answered
  obtain ⟨rest, ha₂⟩ : FailsAfter ((b.emitAll hi).emitAll lo) 0 reached latched := FailsAfter.emitAll (by rwa [hLo])
  rw [← hLo]
  exact FailsAt.append_right hLoRun rfl (sameLines_owed ((b.emitAll hi).emitAll lo))
    (phase_fails (s := ((b.emitAll hi).emitAll lo).owing) h hr (by decide) ha₂)

/-! R34(b): the controller's nibble phase. -/

/-- R83: a word transfer has one event for each of its steps. -/
theorem length_events_xfer (p : Params) (bl rs : Bool) (w : Byte) :
    (Item.events p bl (.xfer rs w)).length = Item.steps p (.xfer rs w) := by
  simp only [Item.events, Item.steps, List.length_append, length_strobeEvents, List.length_singleton]
  omega

/-- R34(b): the nibble phase after the bytes the expander takes, from the byte it held before them. -/
def nibAfter (p : Params) : Byte → Half → List Byte → Half
  | _, c, [] => c
  | x, c, b :: bs => nibAfter p b (if testFlag x p.enBit && !testFlag b p.enBit then c.flip else c) bs

/-- R34(b): only the successful writes of a trace matter for it. -/
theorem foldl_after_ctrlNib (p : Params) (e : Env) (es : List Event) :
    (es.foldl (Env.after p) e).ctrlNib = nibAfter p e.expLatch e.ctrlNib (writesOf es) := by
  induction es generalizing e with
  | nil => rfl
  | cons ev es ih =>
    rw [List.foldl_cons, ih]
    cases ev <;> rfl

theorem testFlag_of_enClear {p : Params} {b : Byte} (h : EnClear p b) : testFlag b p.enBit = false := by
  simp [testFlag, h]

/-- R83: EN set by a pulse. -/
theorem testFlag_or_enBit {p : Params} (h : p.wfMasks = true) (b : Byte) : testFlag (b ||| p.enBit) p.enBit = true := by
  have hen : (b ||| p.enBit) &&& p.enBit = p.enBit := by
    refine BitVec.eq_of_getLsbD_eq fun i hi => ?_
    simp +contextual
  simp only [testFlag, hen, bne_iff_ne]
  exact lowMask_ne_zero (wfMasks_spec h).2.2.1

@[simp] theorem Half.flip_flip (c : Half) : c.flip.flip = c := by cases c <;> rfl

/-- R34(b), R82: a word transfer from an expander with EN low toggles the nibble phase at its third and at its sixth
write. -/
theorem nibAfter_xferBytes {p : Params} (hwf : p.wfMasks = true) {x : Byte} (hx : EnClear p x) (c : Half)
    (bl rs : Bool) (w : Byte) {k : Nat} (hk : k ≤ 7) :
    nibAfter p x c ((xferBytes p bl rs w).take k) = if 3 ≤ k ∧ k ≤ 5 then c.flip else c := by
  have h0 := testFlag_of_enClear hx
  have h1 := testFlag_of_enClear (hiByte_enClear hwf rs bl w)
  have h2 := testFlag_of_enClear (loByte_enClear hwf rs bl w)
  have h3 := testFlag_of_enClear (releaseByte_enClear hwf bl)
  interval_cases k <;> simp [nibAfter, xferBytes, h0, h1, h2, h3, testFlag_or_enBit hwf]

/-- R59, R69: the table's words decode to their rows. -/
theorem decodeTransferWord_of_encode {i : Instr} {tw : BitVec 9} (h : encode i = .word tw) :
    decodeTransferWord tw = some i := by
  cases i <;> simp only [encode, Encoding.word.injEq, reduceCtorEq] at h <;> subst h
  case twClearDisplay => decide
  case twReturnHome => decide
  case twEntryModeSet i s => revert i s; decide
  case twDisplayControl d c b => revert d c b; decide
  case twCursorShift r => revert r; decide
  case twFunctionSet n f => revert n f; decide
  case twSetDdramAddr a => revert a; decide
  case twData c => revert c; decide

/-- R59, R80: a controller word's instruction starts the transfer of its word. -/
theorem exec_of_encode {i : Instr} {rs : Bool} {w : Byte} (h : encode i = .word (BitVec.ofBool rs ++ w)) (s : State) :
    exec i s = .next (s.beginXfer rs w) := by
  obtain ⟨h1, h2⟩ := transferWord_parts rs w
  rw [exec_transferWord (decodeTransferWord_of_encode h), h1, h2]

/-- R80: the start of a word transfer is the step of the phase `HI_DATA` of the latched word. -/
theorem step_latched {s : State} {rs : Bool} {w : Byte} (h : s.rst = none) (hr : s.running = true) :
    step ((s.latch (.xfer rs w)).nextPhase .hiData) = .next (s.beginXfer rs w) :=
  step_write (s := (s.latch (.xfer rs w)).nextPhase .hiData) h hr (by simp) rfl

/-- Settles O54: the run of a word transfer, whole or cut short by the failed write, and the pulses in its bytes. -/
theorem nibblePhaseAfterWord : Obligations.NibblePhaseAfterWord := by
  intro i rs w s rest _ henc hwf hrst hrun hcur hx es
  have hnib : ∀ k ≤ 7, nibAfter s.cfg s.env.expLatch s.env.ctrlNib ((writesOf es).take k) =
      if 3 ≤ k ∧ k ≤ 5 then s.env.ctrlNib.flip else s.env.ctrlNib := fun k hk => by
    rw [writesOf_xfer]
    exact nibAfter_xferBytes hwf hx _ _ _ _ hk
  have hstart := step_latched (rs := rs) (w := w) hrst hrun
  constructor
  · intro hans
    let s₀ : State := { s with ph := .idle, settle := 0 }
    have hend := xfer_runs (s := s₀) hwf hrst hrun rfl hcur ⟨rest, hans⟩
    have hs₀ : step s₀ = .next (s.beginXfer rs w) := (step_startXfer (s := s₀) hrst hrun rfl hcur).trans hstart
    have hlen : Item.steps s.cfg (.xfer rs w) = es.length - 1 + 1 :=
      (length_events_xfer _ _ _ _).symm.trans
        (Nat.sub_add_cancel (List.length_pos_of_ne_nil (List.cons_ne_nil _ _))).symm
    rw [show Item.steps s₀.cfg (.xfer rs w) = _ from hlen, runSteps_succ hs₀] at hend
    refine ⟨_, _, exec_of_encode henc s, hend, rfl, ?_⟩
    refine (sameLines_owed _).2.trans ((foldl_after_ctrlNib s.cfg s.env es).trans ?_)
    have hall : writesOf es = (writesOf es).take 7 :=
      (List.take_of_length_le (length_writesOf_events s.cfg s.bl (.xfer rs w)).le).symm
    rw [hall]
    exact hnib 7 (Nat.le_refl 7)
  · intro k hk hans
    obtain ⟨env, b, -, he, hend⟩ := xfer_fails hwf hrst hrun hcur hk ⟨rest, hans⟩
    have hlen : (failAt k es).length = (failAt k es).length - 1 + 1 :=
      (Nat.sub_add_cancel (List.length_pos_of_ne_nil (failAt_ne_nil k (List.cons_ne_nil _ _)))).symm
    rw [hlen, runSteps_succ hstart] at hend
    refine ⟨_, _, exec_of_encode henc s, hend, rfl, he.2.trans ?_⟩
    refine (foldl_after_ctrlNib s.cfg s.env (failAt k es)).trans ?_
    rw [writesOf_failAt]
    exact hnib k (by omega)

end Sys2Proof.Machine
end

section
/-! PROOFS. A port write that the transport has not answered. -/

namespace Sys2Proof.Machine

/-- R40: with no answer at hand a port write changes nothing. -/
theorem phaseWrite_unanswered {s : State} (h : s.answers = []) : s.phaseWrite = s := by
  rw [State.phaseWrite, h]

/-- R40: the step in which a phase's write waits for its answer. -/
theorem step_unanswered {s : State} (h : s.rst = none) (hr : s.running = true) (hp : s.ph ≠ .idle)
    (hw : s.settle = 0) (ha : s.answers = []) : step s = .next s := by
  rw [step_write h hr hp hw, phaseWrite_unanswered ha]

/-- Settles O40: an item starts with the step of its phase `HI_DATA`, and without an answer that step, like any other
phase's, leaves the state as it is. -/
theorem unansweredWriteWaits : Obligations.UnansweredWriteWaits := by
  refine ⟨fun _ => step_unanswered, fun s rs w h hr hp hc ha => ?_, fun s n h hr hp hc ha => ?_⟩
  · rw [step_startXfer h hr hp hc]
    exact step_unanswered (s := ({ s with w := w, rsl := rs } : State).nextPhase .hiData) h hr (by simp) rfl ha
  · rw [step_startRaw h hr hp hc]
    exact step_unanswered (s := s.nextPhase .hiData) h hr (by simp) rfl ha

end Sys2Proof.Machine
end

section
/-! PROOFS. The request encoding: the header table and its inverse, and the stream of requests. -/

namespace Sys2Proof.Machine

/-! R63: the three kinds of rows whose operand bytes must be zero. -/

theorem noOperands_eq_ok {op a b : Byte} {i j : Instr} :
    noOperands op a b i = .ok j ↔ a = 0#8 ∧ b = 0#8 ∧ i = j := by
  unfold noOperands
  split <;> simp_all

theorem zeroB_eq_ok {op a b : Byte} {i j : Instr} : zeroB op a b i = .ok j ↔ b = 0#8 ∧ i = j := by
  unfold zeroB
  split <;> simp_all

theorem zeroA_eq_ok {op a b : Byte} {i j : Instr} : zeroA op a b i = .ok j ↔ a = 0#8 ∧ i = j := by
  unfold zeroA
  split <;> simp_all

/-- R65: only MESSAGE and PUTSTRING have a payload. -/
theorem payloadLength_eq_zero {op : Byte} (hm : op ≠ 0x13#8) (hp : op ≠ 0x14#8) (b : Byte) :
    payloadLength op b = 0 := by
  simp [payloadLength, hm, hp]

/-- R62, R65: a well-formed request is a header and the payload that the header asks for. -/
theorem encode_request_shape {i : Instr} (hwf : i.wellFormed = true) (hi : i.isRequest = true) :
    ∃ op a b text, encode i = .request (op :: a :: b :: text) ∧ text.length = payloadLength op b := by
  cases i <;> simp only [Instr.isRequest, reduceCtorEq] at hi
  case message l text => exact ⟨_, _, _, text, rfl, Laws.EncodedLength.text_length hwf⟩
  case putString text => exact ⟨_, _, _, text, rfl, Laws.EncodedLength.text_length hwf⟩
  all_goals exact ⟨_, _, _, [], rfl, rfl⟩

/-- R63: the row of the header table that an encoded request is in. -/
theorem decodeHeader_of_encode {i : Instr} {op a b : Byte} {text : List Byte}
    (h : encode i = .request (op :: a :: b :: text)) : decodeHeader op a b text = .ok i := by
  cases i <;> simp only [encode, Encoding.request.injEq, List.cons.injEq, reduceCtorEq] at h <;>
    obtain ⟨rfl, rfl, rfl, rfl⟩ := h <;> rfl

theorem eq_ofNat_of_toNat_eq {v : Byte} {n : Nat} (h : v.toNat = n) : v = BitVec.ofNat 8 n := by
  rw [← h, BitVec.ofNat_toNat, BitVec.setWidth_eq]

/-- R63, R65: what the header table reads from a header and its payload is encoded as these bytes. -/
theorem encode_of_decodeHeader {i : Instr} {op a b : Byte} {text : List Byte} (hlen : text.length = payloadLength op b)
    (h : decodeHeader op a b text = .ok i) : encode i = .request (op :: a :: b :: text) := by
  unfold decodeHeader at h
  split at h
  case h_22 => cases h
  all_goals obtain rfl := eq_ofNat_of_toNat_eq ‹op.toNat = _›
  case h_19 =>
    have hb := eq_ofNat_of_toNat_eq (v := b) hlen.symm
    obtain rfl := Except.ok.inj h
    rw [encode, ← hb]
  case h_20 =>
    have hb := eq_ofNat_of_toNat_eq (v := b) hlen.symm
    obtain ⟨rfl, rfl⟩ := zeroA_eq_ok.mp h
    rw [encode, ← hb]
  all_goals obtain rfl := List.eq_nil_of_length_eq_zero hlen
  case h_1 => cases h; rfl
  case h_17 => cases h; rfl
  case h_18 => obtain ⟨rfl, rfl⟩ := zeroB_eq_ok.mp h; rfl
  case h_21 => obtain ⟨rfl, rfl⟩ := zeroB_eq_ok.mp h; rfl
  all_goals obtain ⟨rfl, rfl, rfl⟩ := noOperands_eq_ok.mp h; rfl

/-- R73: a whole request, whatever follows it, is what its header names. -/
theorem decodeRequest_instr {op a b : Byte} {text : List Byte} (rest : List Byte) {i : Instr}
    (hlen : text.length = payloadLength op b) (h : decodeHeader op a b text = .ok i) :
    decodeRequest (op :: a :: b :: (text ++ rest)) = .instr i rest := by
  simp [decodeRequest, ← hlen, h]

/-- R64, R66, R73: so is a reserved one, which is taken with its payload. -/
theorem decodeRequest_reserved {op a b : Byte} {text : List Byte} (rest : List Byte) {why : Reserved}
    (hlen : text.length = payloadLength op b) (h : decodeHeader op a b text = .error why) :
    decodeRequest (op :: a :: b :: (text ++ rest)) = .reserved why rest := by
  simp [decodeRequest, ← hlen, h]

/-- R73: a stream that decodes to an operation begins with its header and payload. -/
theorem decodeRequest_instr_inv {stream rest : List Byte} {i : Instr} (h : decodeRequest stream = .instr i rest) :
    ∃ op a b text, stream = op :: a :: b :: (text ++ rest) ∧ text.length = payloadLength op b ∧
      decodeHeader op a b text = .ok i := by
  unfold decodeRequest at h
  split at h
  next op a b tail =>
    extract_lets n at h
    split at h
    · cases h
    next hn =>
      split at h
      next j hd =>
        obtain ⟨rfl, rfl⟩ := Decoded.instr.inj h
        refine ⟨op, a, b, tail.take n, by rw [List.take_append_drop], ?_, hd⟩
        rw [List.length_take]
        exact Nat.min_eq_left (Nat.le_of_not_lt hn)
      · cases h
  · cases h

/-- R65: an encoded text whose length is the header's has at most 255 bytes. -/
theorem wellFormed_of_encode {i : Instr} {op a b : Byte} {text : List Byte}
    (h : encode i = .request (op :: a :: b :: text)) (hlen : text.length = payloadLength op b) :
    i.wellFormed = true := by
  have hle : text.length ≤ 255 := by
    rw [hlen, payloadLength]
    split <;> omega
  cases i <;> simp only [encode, Encoding.request.injEq, List.cons.injEq, reduceCtorEq] at h
  case message l text' =>
    obtain ⟨-, -, -, rfl⟩ := h
    exact decide_eq_true hle
  case putString text' =>
    obtain ⟨-, -, -, rfl⟩ := h
    exact decide_eq_true hle
  all_goals rfl

/-- Settles O9: an encoded request is a header with its payload, and the header table reads it back. -/
theorem requestDecodesToItself : Obligations.RequestDecodesToItself := by
  intro i rest hwf hi
  obtain ⟨op, a, b, text, henc, hlen⟩ := encode_request_shape hwf hi
  exact ⟨_, henc, decodeRequest_instr rest hlen (decodeHeader_of_encode henc)⟩

/-- Settles O10: the stream begins with the header and payload that the instruction is encoded as. -/
theorem decodedRequestEncodesBack : Obligations.DecodedRequestEncodesBack := by
  intro i stream rest h
  obtain ⟨op, a, b, text, rfl, hlen, hd⟩ := decodeRequest_instr_inv h
  have henc := encode_of_decodeHeader hlen hd
  exact ⟨wellFormed_of_encode henc hlen, decodeRequest_isRequest h, _, henc, rfl⟩

/-- Settles O12: the rows written out, evaluated. -/
theorem specEncodingsDecode : Obligations.SpecEncodingsDecode := by
  unfold Obligations.SpecEncodingsDecode
  decide

/-- R64: an `op` outside 01 to 15 has no row. -/
theorem decodeHeader_reservedOp {op : Byte} (h : op = 0x00#8 ∨ 0x16 ≤ op.toNat) (a b : Byte) (text : List Byte) :
    decodeHeader op a b text = .error (.opcode op) := by
  have hop : op.toNat = 0 ∨ 0x16 ≤ op.toNat := h.imp_left (congrArg BitVec.toNat)
  unfold decodeHeader
  split
  case h_22 => rfl
  all_goals omega

/-- R63: the operations 02 to 10 have no operands. -/
theorem decodeHeader_noOperands {op : Byte} (h2 : 0x02 ≤ op.toNat) (h10 : op.toNat ≤ 0x10) (a b : Byte)
    (text : List Byte) : ∃ i, decodeHeader op a b text = noOperands op a b i := by
  unfold decodeHeader
  generalize op.toNat = n at h2 h10 ⊢
  interval_cases n <;> exact ⟨_, rfl⟩

/-- R64, R66: a reserved header without a payload takes its three bytes. -/
theorem decodeRequest_reserved_header {op a b : Byte} (tail : List Byte) {why : Reserved} (hm : op ≠ 0x13#8)
    (hp : op ≠ 0x14#8) (h : decodeHeader op a b [] = .error why) :
    decodeRequest (op :: a :: b :: tail) = .reserved why tail :=
  decodeRequest_reserved (text := []) tail (payloadLength_eq_zero hm hp b).symm h

/-- Settles O13: the row of each reserved header. -/
theorem reservedHeadersAreNamed : Obligations.ReservedHeadersAreNamed := by
  refine ⟨fun op a b tail h => ?_, fun op a b tail h2 h10 hab => ?_, fun op a b tail h hb => ?_,
    fun a b text rest ha hlen => ?_⟩
  · exact decodeRequest_reserved_header tail (by rintro rfl; simp at h) (by rintro rfl; simp at h)
      (decodeHeader_reservedOp h a b [])
  · obtain ⟨i, hi⟩ := decodeHeader_noOperands h2 h10 a b []
    refine decodeRequest_reserved_header tail (by rintro rfl; simp at h10) (by rintro rfl; simp at h10) ?_
    rw [hi, noOperands, if_neg (not_and_or.mpr hab)]
  · rcases h with rfl | rfl
    · exact decodeRequest_reserved_header tail (by decide) (by decide) (if_neg hb)
    · exact decodeRequest_reserved_header tail (by decide) (by decide) (if_neg hb)
  · exact decodeRequest_reserved (op := 0x14#8) rest hlen (if_neg ha)

/-- Settles O16: the request port takes what there is. -/
theorem incompleteRequestIsAwaited : Obligations.IncompleteRequestIsAwaited := by
  intro s h hr hd
  have hb : (!(s.rx ++ s.reqIn).isEmpty) = decide (s.rx ++ s.reqIn ≠ []) := by
    cases s.rx ++ s.reqIn <;> rfl
  rw [step_receive h hr, receive, hd, ← hb]

end Sys2Proof.Machine
end

section
/-! PROOFS. Controller words (R59) against their rows, and no step under the invariant that stops. -/

namespace Sys2Proof.Machine

/-- R59: the nine bits of each row are `RS = 0` and the bits that the row fixes and leaves. -/
theorem transferWord_rows :
    (∀ a : BitVec 7, 0b01#2 ++ a = BitVec.ofBool false ++ (0b1#1 ++ a)) ∧
    (∀ n f : BitVec 1, 0b00010#5 ++ n ++ f ++ 0b00#2 = BitVec.ofBool false ++ (0b0010#4 ++ n ++ f ++ 0b00#2)) ∧
    (∀ r : BitVec 1, 0b000011#6 ++ r ++ 0b00#2 = BitVec.ofBool false ++ (0b00011#5 ++ r ++ 0b00#2)) ∧
    (∀ d c b : BitVec 1, 0b000001#6 ++ d ++ c ++ b = BitVec.ofBool false ++ (0b00001#5 ++ d ++ c ++ b)) ∧
    (∀ i s : BitVec 1, 0b0000001#7 ++ i ++ s = BitVec.ofBool false ++ (0b000001#6 ++ i ++ s)) := by
  decide

/-- R55: a TransferWord put together from its two parts. -/
theorem transferWord_eq (tw : BitVec 9) : BitVec.ofBool (tw.extractLsb' 8 1 == 1#1) ++ tw.extractLsb' 0 8 = tw := by
  revert tw
  decide

/-- R59: what a TransferWord decodes to is a controller word, encoded as these nine bits. -/
theorem encode_of_decodeTransferWord {tw : BitVec 9} {i : Instr} (h : decodeTransferWord tw = some i) :
    encode i = .word tw ∧ i.isRequest = false := by
  obtain ⟨h1, h2, h3, h4, h5⟩ := transferWord_bits (tw.extractLsb' 0 8)
  obtain ⟨r1, r2, r3, r4, r5⟩ := transferWord_rows
  have htw := transferWord_eq tw
  unfold decodeTransferWord at h
  extract_lets w at h
  by_cases c0 : tw.extractLsb' 8 1 = 1#1
  · rw [if_pos c0] at h
    obtain rfl := Option.some.inj h
    rw [c0] at htw
    exact ⟨congrArg Encoding.word htw, rfl⟩
  rw [if_neg c0] at h
  rw [beq_false_of_ne c0] at htw
  have word {v : Byte} (hv : v = w) : Encoding.word (BitVec.ofBool false ++ v) = .word tw := by rw [hv, htw]
  split at h
  · obtain rfl := Option.some.inj h
    exact ⟨(congrArg Encoding.word (r1 _)).trans (word (h1 ‹_›)), rfl⟩
  split at h
  · obtain rfl := Option.some.inj h
    exact ⟨(congrArg Encoding.word (r2 _ _)).trans (word (h2 ‹_›)), rfl⟩
  split at h
  · obtain rfl := Option.some.inj h
    exact ⟨(congrArg Encoding.word (r3 _)).trans (word (h3 ‹_›)), rfl⟩
  split at h
  · obtain rfl := Option.some.inj h
    exact ⟨(congrArg Encoding.word (r4 _ _ _)).trans (word (h4 ‹_›)), rfl⟩
  split at h
  · obtain rfl := Option.some.inj h
    exact ⟨(congrArg Encoding.word (r5 _ _)).trans (word (h5 ‹_›)), rfl⟩
  split at h
  · obtain rfl := Option.some.inj h
    exact ⟨word (v := 0b00000010#8) (Eq.symm ‹_›), rfl⟩
  split at h
  · obtain rfl := Option.some.inj h
    exact ⟨word (v := 0b00000001#8) (Eq.symm ‹_›), rfl⟩
  · cases h

/-- R54: an instruction that is no request is encoded as a TransferWord. -/
theorem encode_word_of_not_isRequest {i : Instr} (hi : i.isRequest = false) : ∃ tw, encode i = .word tw := by
  cases i <;> simp only [Instr.isRequest, reduceCtorEq] at hi <;> exact ⟨_, rfl⟩

/-- Settles O11: the rows of R59's table, both ways. -/
theorem transferWordsAgree : Obligations.TransferWordsAgree := by
  refine ⟨fun i hi => ?_, fun tw i => encode_of_decodeTransferWord⟩
  obtain ⟨tw, henc⟩ := encode_word_of_not_isRequest hi
  exact ⟨tw, henc, decodeTransferWord_of_encode henc⟩

/-- Settles O15: the step starts the word, and a word with a row starts as its row says. -/
theorem stepRunsTransferWord : Obligations.StepRunsTransferWord := by
  intro s rs w hrst hrun hph hcur
  have hs : step s = startWord rs w s := by
    rw [step_running hrst hrun, sequence_idle hph, startItem, hcur]
  refine ⟨fun i hi => ?_, hs.trans (startWord_eq rs w s)⟩
  rw [hs, startWord, hi]

/-! R93, R95: where an operation can stop. -/

theorem whenNoFault_continues {s : State} {k : Result} (h : ∃ t, k = .next t) : ∃ t, whenNoFault s k = .next t := by
  unfold whenNoFault
  split
  · exact ⟨_, rfl⟩
  · exact h

theorem whenReady_continues {s : State} {k : Result} (h : s.configured = true → ∃ t, k = .next t) :
    ∃ t, whenReady s k = .next t := by
  refine whenNoFault_continues ?_
  split
  · exact h ‹_›
  · exact ⟨_, rfl⟩

/-- R95: with 1 to 4 lines a clamped row other than 0 has its line. -/
theorem lineOf_clampRow {row : Byte} {numLines : BitVec 3} (hrow : row ≠ 0#8) (h1 : 1 ≤ numLines.toNat)
    (h4 : numLines.toNat ≤ 4) : lineOf (clampRow row numLines) ≠ none := by
  have hr : row.toNat ≠ 0 := fun h => hrow (BitVec.eq_of_toNat_eq h)
  rw [Ne, lineOf_eq_none, clampRow]
  omega

/-- R73, R93: with the geometry in its range every request is accepted or turned away. -/
theorem exec_request_continues {i : Instr} (hi : i.isRequest = true) {s : State} (hg : GeometryValid s) :
    ∃ t, exec i s = .next t := by
  cases i <;> simp only [Instr.isRequest, reduceCtorEq] at hi
  case begin c l =>
    refine whenNoFault_continues ?_
    split <;> exact ⟨_, rfl⟩
  case setCursor col row =>
    refine whenReady_continues fun hc => ?_
    split
    · exact ⟨_, rfl⟩
    next hdom =>
      obtain ⟨h1, h4⟩ := hg.lines hc
      split
      · exact ⟨_, rfl⟩
      next hl => exact absurd hl (lineOf_clampRow (not_or.mp hdom).2 h1 h4)
  case message l text =>
    refine whenReady_continues fun _ => ?_
    split <;> exact ⟨_, rfl⟩
  all_goals exact whenReady_continues fun _ => ⟨_, rfl⟩

/-- R79: every event of a running operation has a next state. -/
theorem sequence_continues (s : State) : ∃ t, sequence s = .next t := by
  by_cases hph : s.ph = .idle
  · rw [sequence_idle hph]
    rcases startItem_cases s with ⟨rs, w, -, h⟩ | ⟨n, -, h⟩ | ⟨t, -, h⟩ | ⟨-, h⟩ <;> exact ⟨_, h⟩
  · exact ⟨_, sequence_phase hph⟩

/-- R62, R73: so has every action of the request port, with the geometry in its range. -/
theorem receive_continues {s : State} (hg : GeometryValid s) : ∃ t, receive s = .next t := by
  rcases receive_cases s with ⟨-, h⟩ | ⟨why, rest, -, h⟩ | ⟨i, rest, hd, h⟩
  · exact ⟨_, h⟩
  · exact ⟨_, h⟩
  · rw [h]
    exact exec_request_continues (decodeRequest_isRequest hd) ⟨hg.unset, hg.lines, hg.cols⟩

/-- Settles O6: the invariant's geometry leaves no row without a line, and nothing else stops a step. -/
theorem stepNeverStops : Obligations.StepNeverStops := by
  intro s hs
  cases hrst : s.rst with
  | some r => exact ⟨_, step_reset hrst⟩
  | none =>
    cases hrun : s.running with
    | true =>
      rw [step_running hrst hrun]
      exact sequence_continues s
    | false =>
      rw [step_receive hrst hrun]
      exact receive_continues hs.geometry

end Sys2Proof.Machine
end

section
/-! PROOFS. The bytes on the expander: what can be read back from the composition of R57, the encoder's bytes (R82,
R87) in its form, and the four phases of a word (R74). -/

namespace Sys2Proof.Machine

/-! R32, R57: reading a line of a byte that is put together from several. -/

theorem testFlag_or (a b m : Byte) : testFlag (a ||| b) m = (testFlag a m || testFlag b m) := by
  rw [Bool.eq_iff_iff]
  simp only [testFlag, bne_iff_ne, Bool.or_eq_true, BitVec.and_or_distrib_right, ne_eq, BitVec.or_eq_zero_iff,
    not_and_or]

theorem testFlag_lineBit_same {m : Byte} (hm : lowMask m = true) (on : Bool) : testFlag (lineBit on m) m = on := by
  have h0 := lowMask_ne_zero hm
  cases on <;> simp [testFlag, lineBit, h0]

theorem testFlag_lineBit_other {m n : Byte} (hm : lowMask m = true) (hn : lowMask n = true) (h : m ≠ n) (on : Bool) :
    testFlag (lineBit on m) n = false := by
  simp [testFlag, lineBit_and on (lowMask_disjoint hm hn h)]

/-- R57: a nibble's four data lines. -/
theorem nibble_and_lowMask {m : Byte} (hm : lowMask m = true) (n : Nibble) : n.setWidth 8 <<< 4 &&& m = 0#8 := by
  have hn : ∀ n : Nibble, ((n.setWidth 8 <<< 4) &&& 0xF0#8 : Byte) = n.setWidth 8 <<< 4 := by decide
  rw [← hn n]
  exact highNibble_disjoint hm _

theorem extractLsb'_lineBit {m : Byte} (hm : lowMask m = true) (on : Bool) : (lineBit on m).extractLsb' 4 4 = 0#4 := by
  rcases lowMask_cases hm with rfl | rfl | rfl | rfl <;> cases on <;> rfl

/-! R57: the nibble and the four lines of a composed byte. -/

theorem testFlag_expanderByte (p : Params) (n : Nibble) (rs en bl : Bool) {m : Byte} (hm : lowMask m = true) :
    testFlag (expanderByte p n rs en bl) m =
      (testFlag (lineBit rs p.rsBit) m || testFlag (lineBit en p.enBit) m || testFlag (lineBit bl p.blBit) m) := by
  have hn : testFlag (n.setWidth 8 <<< 4) m = false := by simp [testFlag, nibble_and_lowMask hm]
  simp only [expanderByte, testFlag_or, hn, Bool.false_or]

section
variable {p : Params} (h : p.wfMasks = true) (n : Nibble) (rs en bl : Bool)
include h

theorem expanderByte_nibble : (expanderByte p n rs en bl).extractLsb' 4 4 = n := by
  obtain ⟨hrs, -, hen, hbl, -⟩ := wfMasks_spec h
  have hn : ∀ n : Nibble, (n.setWidth 8 <<< 4 : Byte).extractLsb' 4 4 = n := by decide
  simp [expanderByte, BitVec.extractLsb'_or, extractLsb'_lineBit hrs, extractLsb'_lineBit hen, extractLsb'_lineBit hbl,
    hn n]

theorem expanderByte_rs : testFlag (expanderByte p n rs en bl) p.rsBit = rs := by
  obtain ⟨hrs, -, hen, hbl, -, hre, hrb, -⟩ := wfMasks_spec h
  simp [testFlag_expanderByte p n rs en bl hrs, testFlag_lineBit_same hrs, testFlag_lineBit_other hen hrs hre.symm,
    testFlag_lineBit_other hbl hrs hrb.symm]

theorem expanderByte_en : testFlag (expanderByte p n rs en bl) p.enBit = en := by
  obtain ⟨hrs, -, hen, hbl, -, hre, -, -, -, heb⟩ := wfMasks_spec h
  simp [testFlag_expanderByte p n rs en bl hen, testFlag_lineBit_same hen, testFlag_lineBit_other hrs hen hre,
    testFlag_lineBit_other hbl hen heb.symm]

theorem expanderByte_bl : testFlag (expanderByte p n rs en bl) p.blBit = bl := by
  obtain ⟨hrs, -, hen, hbl, -, -, hrb, -, -, heb⟩ := wfMasks_spec h
  simp [testFlag_expanderByte p n rs en bl hbl, testFlag_lineBit_same hbl, testFlag_lineBit_other hrs hbl hrb,
    testFlag_lineBit_other hen hbl heb]

/-- R57: RW is never set. -/
theorem expanderByte_rw : expanderByte p n rs en bl &&& p.rwBit = 0#8 := by
  obtain ⟨hrs, hrw, hen, hbl, hrr, -, -, hwe, hwb, -⟩ := wfMasks_spec h
  have hlines := or_and_zero (or_and_zero (nibble_and_lowMask hrw n) (lineBit_and rs (lowMask_disjoint hrs hrw hrr)))
    (lineBit_and en (lowMask_disjoint hen hrw hwe.symm))
  exact or_and_zero hlines (lineBit_and bl (lowMask_disjoint hbl hrw hwb.symm))

end

/-- Settles O44: the nibble and each line can be read back from the byte. -/
theorem expanderByteInjective : Obligations.ExpanderByteInjective := by
  intro p n n' rs rs' en en' bl bl' h
  refine ⟨fun he => ⟨?_, ?_, ?_, ?_⟩, expanderByte_rw h n rs en bl⟩
  · rw [← expanderByte_nibble h n rs en bl, he, expanderByte_nibble h]
  · rw [← expanderByte_rs h n rs en bl, he, expanderByte_rs h]
  · rw [← expanderByte_en h n rs en bl, he, expanderByte_en h]
  · rw [← expanderByte_bl h n rs en bl, he, expanderByte_bl h]

/-! R82, R83, R87: the encoder's bytes are compositions of R57. -/

theorem hiByte_eq_expanderByte (p : Params) (rs bl : Bool) (w : Byte) :
    hiByte p rs bl w = expanderByte p (hiNibble w) rs false bl := by
  have hw : ∀ w : Byte, w &&& 0xF0#8 = (hiNibble w).setWidth 8 <<< 4 := by decide
  simp [hiByte, controlBits, expanderByte, lineBit, hw w, BitVec.or_assoc]

theorem loByte_eq_expanderByte (p : Params) (rs bl : Bool) (w : Byte) :
    loByte p rs bl w = expanderByte p (loNibble w) rs false bl := by
  have hw : ∀ w : Byte, hiNibble (w <<< 4) = loNibble w := by decide
  rw [← hw w]
  exact hiByte_eq_expanderByte p rs bl (w <<< 4)

theorem rawByte_eq_expanderByte (p : Params) (bl : Bool) (n : Nibble) :
    rawByte p bl n = expanderByte p n false false bl := by
  simp [rawByte, expanderByte, lineBit]

theorem expanderByte_or_enBit (p : Params) (n : Nibble) (rs bl : Bool) :
    expanderByte p n rs false bl ||| p.enBit = expanderByte p n rs true bl := by
  simp only [expanderByte, lineBit, Bool.false_eq_true, if_false, if_true, BitVec.or_zero, BitVec.or_assoc]
  rw [BitVec.or_comm p.enBit]

/-- Settles O47: the seven bytes read as phases, and the run of the one-item expansion. -/
theorem fourPhasesPerWord : Obligations.FourPhasesPerWord := by
  intro s rs w hwf es
  constructor
  · have hes : writesOf es = xferBytes s.cfg s.bl rs w := writesOf_xfer _ _ _ _
    rw [hes]
    refine ⟨_, _, _, _, _, _, _, rfl, rfl, ?_, ?_, rfl, rfl, rfl, rfl, ?_⟩
    · rw [hiByte_eq_expanderByte, expanderByte_nibble hwf, hiNibble]
    · rw [loByte_eq_expanderByte, expanderByte_nibble hwf, loNibble]
    · exact or_and_zero (hiByte_enClear hwf rs s.bl w) (loByte_enClear hwf rs s.bl w)
  · intro hrst hrx ha
    obtain ⟨htrace, -⟩ := finishedOperationFrame s [.xfer rs w]
    refine ⟨_, sequencerExecutesExpansion s [.xfer rs w] hwf hrst hrx ha, htrace.trans ?_⟩
    simp [eventsOf, es]

end Sys2Proof.Machine
end

section
/-! PROOFS. The reference receiver (R75, R76) on the trace of an expansion. -/

namespace Sys2Proof.Machine

/-- R75: a byte with EN clear starts no falling edge. -/
theorem capture_enClear {p : Params} {b : Byte} (h : EnClear p b) (bs : List Byte) :
    capture p (b :: bs) = capture p bs := by
  cases bs with
  | nil => rfl
  | cons c bs => simp [capture, testFlag_of_enClear h]

theorem expanderByte_enClear {p : Params} (h : p.wfMasks = true) (n : Nibble) (rs bl : Bool) :
    EnClear p (expanderByte p n rs false bl) := by
  simpa [testFlag] using expanderByte_en h n rs false bl

/-- R75, R83: a strobe's bytes are captured as its nibble with its RS. -/
theorem capture_strobe {p : Params} (h : p.wfMasks = true) (n : Nibble) (rs bl : Bool) (bs : List Byte) :
    capture p (writesOf (strobeEvents p (expanderByte p n rs false bl)) ++ bs) = (rs, n) :: capture p bs := by
  have hclear := expanderByte_enClear h n rs bl
  rw [writesOf_strobeEvents, expanderByte_or_enBit]
  simp only [List.cons_append, List.nil_append, capture_enClear hclear]
  simp [capture, expanderByte_en h, expanderByte_rs h, expanderByte_nibble h, capture_enClear hclear]

/-- R75, R82, R87: the nibbles that an item gives the controller, each with its RS. -/
def Item.nibbles : Item → List (Bool × Nibble)
  | .xfer rs w => [(rs, hiNibble w), (rs, loNibble w)]
  | .raw n => [(false, n)]
  | .delay _ => []

/-- R75: an item's bytes are captured as its nibbles, whatever is written after them. -/
theorem capture_events {p : Params} (h : p.wfMasks = true) (bl : Bool) (it : Item) (bs : List Byte) :
    capture p (writesOf (it.events p bl) ++ bs) = it.nibbles ++ capture p bs := by
  cases it with
  | xfer rs w =>
    simp only [Item.events, hiByte_eq_expanderByte, loByte_eq_expanderByte, writesOf_append, writesOf_waitEvents,
      List.nil_append, List.append_assoc, capture_strobe h]
    exact congrArg (fun ns => (rs, hiNibble w) :: (rs, loNibble w) :: ns)
      (capture_enClear (releaseByte_enClear h bl) bs)
  | raw n =>
    rw [Item.events, rawByte_eq_expanderByte, capture_strobe h]
    rfl
  | delay t => simp [Item.events, Item.nibbles]

/-- R75, R79: an expansion's trace is captured as its items' nibbles, in order. -/
theorem capture_eventsOf {p : Params} (h : p.wfMasks = true) (bl : Bool) (items : List Item) :
    capture p (writesOf (eventsOf p bl items)) = items.flatMap Item.nibbles := by
  induction items with
  | nil => rfl
  | cons it items ih =>
    rw [eventsOf, List.flatMap_cons, writesOf_append, capture_events h]
    exact congrArg (it.nibbles ++ ·) ih

/-- R76: without a raw nibble, the nibbles pair to the words. -/
theorem pairNibbles_nibbles {items : List Item} (h : noRaw items = true) :
    pairNibbles (items.flatMap Item.nibbles) = wordsOf items := by
  induction items with
  | nil => rfl
  | cons it items ih =>
    cases it with
    | xfer rs w =>
      have hw : hiNibble w ++ loNibble w = w := BitVec.extractLsb'_append_extractLsb' (w := 4)
      rw [List.flatMap_cons, wordsOf, ← ih h]
      exact congrArg (fun v => (rs, v) :: pairNibbles (items.flatMap Item.nibbles)) hw
    | raw n => cases h
    | delay t => exact ih h

/-- R76: the receiver reads the words of an expansion without a raw nibble. -/
theorem received_eventsOf {p : Params} (h : p.wfMasks = true) (bl : Bool) {items : List Item}
    (hraw : noRaw items = true) : received p (eventsOf p bl items) = wordsOf items := by
  rw [received, capture_eventsOf h, pairNibbles_nibbles hraw]

/-- Settles O46: the trace is captured as the items' nibbles, which pair to the words; a raw nibble in front is the one
before them. -/
theorem receiverReadsWordsBack : Obligations.ReceiverReadsWordsBack := by
  intro p bl h
  refine ⟨fun rs w => ?_, fun items => received_eventsOf h bl, fun n items hraw => ?_⟩
  · simpa [eventsOf, wordsOf] using received_eventsOf h bl (items := [.xfer rs w]) rfl
  · rw [capture_eventsOf h]
    exact ⟨rfl, pairNibbles_nibbles hraw⟩

end Sys2Proof.Machine
end

section
/-! PROOFS. The run of a controller word, started as the instruction of its row. -/

namespace Sys2Proof.Machine

/-- R59, R80, R82: a controller word whose writes succeed: the instruction makes the first event, and each
further step one of the others. -/
theorem transferWord_runs {i : Instr} {rs : Bool} {w : Byte} {s : State}
    (henc : encode i = .word (BitVec.ofBool rs ++ w)) (hwf : s.cfg.wfMasks = true) (hrst : s.rst = none)
    (hrun : s.running = true) (hcur : s.current = some (.xfer rs w)) (ha : Answered s 7) :
    ∃ t, exec i s = .next t ∧
      runSteps ((Item.events s.cfg s.bl (.xfer rs w)).length - 1) t =
        .next (({ s with ph := .idle, settle := 0 } : State).endItem (.xfer rs w)) := by
  let s₀ : State := { s with ph := .idle, settle := 0 }
  have hend := xfer_runs (s := s₀) hwf hrst hrun rfl hcur ha
  have hstart : step s₀ = .next (s.beginXfer rs w) :=
    (step_startXfer (s := s₀) hrst hrun rfl hcur).trans (step_latched hrst hrun)
  have hlen : Item.steps s.cfg (.xfer rs w) = (Item.events s.cfg s.bl (.xfer rs w)).length - 1 + 1 := by
    rw [length_events_xfer, Item.steps]
    omega
  rw [show Item.steps s₀.cfg (.xfer rs w) = _ from hlen, runSteps_succ hstart] at hend
  exact ⟨_, exec_of_encode henc s, hend⟩

/-- R86: a word transfer leaves the release byte in `PORT`. -/
theorem lastWrite_xfer (p : Params) (bl rs : Bool) (w b : Byte) :
    lastWrite b (Item.events p bl (.xfer rs w)) = releaseByte p bl := by
  simp [Item.events]

/-- Settles O35: the run of the word, its end written out. -/
theorem transferWordMakesSevenWrites : Obligations.TransferWordMakesSevenWrites := by
  intro i rs w s rest _ henc hwf hrst hrun hcur hans c hi lo bl wait es
  have hes : es = Item.events s.cfg s.bl (.xfer rs w) := by
    simp [es, wait, hi, lo, bl, c, Item.events, strobeEvents, waitEvents, hiByte, loByte, controlBits, releaseByte,
      lineBit]
  have hlast : ∀ b, lastWrite b (Item.events s.cfg s.bl (.xfer rs w)) = bl := lastWrite_xfer s.cfg s.bl rs w
  have hleft : s.answers.drop (writesOf (Item.events s.cfg s.bl (.xfer rs w))).length = rest := by
    rw [length_writesOf_events, hans]
    rfl
  obtain ⟨t, ht, hend⟩ := transferWord_runs henc hwf hrst hrun hcur ⟨rest, hans⟩
  refine ⟨t, _, ht, hes ▸ hend, ?_, ?_⟩
  · simp only [State.endItem, State.nextItem, State.emitAll, State.latch, hlast, hleft, hes]
  · exact (owed_expLatch _).trans ((foldl_after_expLatch _ _ _).trans (hlast _))

end Sys2Proof.Machine
end

section
/-! PROOFS. The run of an operation that the transport fails at one of its port writes. -/

namespace Sys2Proof.Machine

/-- R89: a start that steps like another one fails like it. -/
theorem FailsAt.of_step_eq {s u u' : State} {es : List Event} {k : Nat} {reached latched : Bool}
    (hs : step u = step u') (hes : es ≠ []) (h : FailsAt s u' es k reached latched) :
    FailsAt s u es k reached latched := by
  obtain ⟨env, b, hb, he, hrun⟩ := h
  exact ⟨env, b, hb, he, (runSteps_congr hs (List.length_pos_of_ne_nil (failAt_ne_nil k hes))).trans hrun⟩

/-- R87, R89: one of the three writes of a raw nibble fails. -/
theorem raw_fails {s : State} {n : Nibble} {k : Nat} {reached latched : Bool} (hwf : s.cfg.wfMasks = true)
    (h : s.rst = none) (hr : s.running = true) (hc : s.current = some (.raw n)) (hk : k < 3)
    (ha : FailsAfter s k reached latched) :
    FailsAt s (s.nextPhase .hiData) (Item.events s.cfg s.bl (.raw n)) k reached latched := by
  have hb : s.dataByte .high = rawByte s.cfg s.bl n := by
    have hd : s.dataByte .high = s.hiDataByte := rfl
    simp [hd, State.hiDataByte, hc]
  have hf := strobe_fails (s := s) .high h hr (hb ▸ rawByte_enClear hwf s.bl n) hk ha
  rwa [hb] at hf

/-- R82, R87, R89: one of the writes of an item fails, from the start of the item on. -/
theorem item_fails {s : State} {it : Item} {k : Nat} {reached latched : Bool} (hwf : s.cfg.wfMasks = true)
    (h : s.rst = none) (hr : s.running = true) (hp : s.ph = .idle) (hc : s.current = some it) (hk : k < it.writes)
    (ha : FailsAfter s k reached latched) :
    FailsAt (s.latch it) s (it.events s.cfg s.bl) k reached latched := by
  cases it with
  | xfer rs w => exact (xfer_fails hwf h hr hc hk ha).of_step_eq (step_startXfer h hr hp hc) (List.cons_ne_nil _ _)
  | raw n => exact (raw_fails hwf h hr hc hk ha).of_step_eq (step_startRaw h hr hp hc) (List.cons_ne_nil _ _)
  | delay t => exact absurd hk (Nat.not_lt_zero k)

/-- R5: an item whose delay is an event has one event for each of its steps. -/
theorem length_events {p : Params} {bl : Bool} {it : Item} (h : it ≠ .delay 0) :
    (it.events p bl).length = it.steps p := by
  cases it with
  | xfer rs w => exact length_events_xfer p bl rs w
  | raw n => exact length_strobeEvents p _
  | delay t =>
    have ht : t ≠ 0 := fun h0 => h (congrArg Item.delay h0)
    simp [Item.events, Item.steps, waitEvents, ht]

/-- R88: the delays of an expansion are positive if those of its items are. -/
theorem delaysPositive_cons {it : Item} {items : List Item} (h : delaysPositive (it :: items) = true) :
    it ≠ .delay 0 ∧ delaysPositive items = true := by
  cases it with
  | xfer rs w => exact ⟨by simp, h⟩
  | raw n => exact ⟨by simp, h⟩
  | delay t => simpa [delaysPositive, delaysOf] using h

/-- R34(c): owing an item's wait touches no line. -/
theorem sameLines_owe (p : Params) (e : Env) (it : Item) : SameLines (e.owe p it) e := by
  obtain ⟨k, hk⟩ := owe_eq p it
  rw [hk]
  exact ⟨rfl, rfl⟩

/-- The state with other operands in the latches of word transfers (R14). -/
def State.withOperands (s : State) (w : Byte) (rsl : Bool) : State := { s with w := w, rsl := rsl }

theorem latch_eq_withOperands (s : State) (it : Item) : ∃ w rsl, s.latch it = s.withOperands w rsl := by
  cases it <;> exact ⟨_, _, rfl⟩

/-- R79, R86, R87: with the operands set aside, an item leaves its events, and of the environment only the wait owed
differs. -/
theorem afterItem_withOperands (s : State) (it : Item) (w : Byte) (rsl : Bool) :
    (s.afterItem it).withOperands w rsl =
      { (s.withOperands w rsl).emitAll (it.events s.cfg s.bl) with env := (s.afterItem it).env } := by
  rw [afterItem_eq]
  cases it <;> rfl

theorem afterItem_sameLines (s : State) (it : Item) :
    SameLines (s.afterItem it).env ((it.events s.cfg s.bl).foldl (Env.after s.cfg) s.env) :=
  sameLines_owe _ _ _

/-- R40, R92: the answers that are left after an item. -/
theorem FailsAfter.afterItem {s : State} {it : Item} {k : Nat} {reached latched : Bool}
    (h : FailsAfter s (it.writes + k) reached latched) : FailsAfter (s.afterItem it) k reached latched := by
  rw [afterItem_eq]
  have hl : FailsAfter (s.latch it) (it.writes + k) reached latched := by cases it <;> exact h
  exact FailsAfter.emitAll (s := s.latch it) (by simpa using hl)

/-- R79, R89, R139: from its item `j` on, an expansion runs item by item up to the write number `k` that fails, and the
operation is abandoned; the operands of the word under way stay in the latches. -/
theorem expansion_fails {s : State} {all items : List Item} {j k : Nat} {reached latched : Bool}
    (hwf : s.cfg.wfMasks = true) (h : s.rst = none) (hx : s.rx = []) (hd : delaysPositive items = true)
    (hj : all.drop j = items) (hk : k < writeCount items) (ha : FailsAfter s k reached latched) :
    ∃ w rsl, FailsAt (s.withOperands w rsl) (s.atItem all j) (eventsOf s.cfg s.bl items) k reached latched := by
  have hr : (s.atItem all j).running = true := by simp [State.running, State.atItem, hx]
  induction items generalizing s j k with
  | nil => exact absurd hk (Nat.not_lt_zero k)
  | cons it items ih =>
    obtain ⟨hit, hd⟩ := delaysPositive_cons hd
    have hc : all[j]? = some it := by rw [← List.head?_drop, hj]; rfl
    have hev : eventsOf s.cfg s.bl (it :: items) = it.events s.cfg s.bl ++ eventsOf s.cfg s.bl items := rfl
    rw [hev]
    rcases Nat.lt_or_ge k it.writes with hlt | hge
    · obtain ⟨w, rsl, hl⟩ := latch_eq_withOperands s it
      have hf := item_fails (s := s.atItem all j) hwf h hr rfl hc hlt ha
      have hf' : FailsAt (s.latch it) (s.atItem all j) (it.events s.cfg s.bl) k reached latched := by
        cases it <;> exact hf
      exact ⟨w, rsl, hl ▸ hf'.append_left _⟩
    · obtain ⟨k, rfl⟩ := Nat.exists_eq_add_of_le hge
      have hk' : k < writeCount items := by
        simp only [writeCount, List.map_cons, List.sum_cons] at hk ⊢
        omega
      have hj' : all.drop (j + 1) = items := by rw [← List.tail_drop, hj]; rfl
      obtain ⟨w, rsl, hf⟩ := ih (s := s.afterItem it) (j := j + 1) hwf h hx hd hj' hk' ha.afterItem hr
      have hrun : runSteps (it.events s.cfg s.bl).length (s.atItem all j) =
          .next ((s.afterItem it).atItem all (j + 1)) := by
        have hat : Answered (s.atItem all j) it.writes := ha.answered
        rw [length_events hit]
        exact (item_runs (s := s.atItem all j) hwf h hr rfl hc hat).trans (congrArg _ (endItem_atItem hc))
      refine ⟨w, rsl, ?_⟩
      rw [← length_writesOf_events s.cfg s.bl it]
      exact FailsAt.append_right hrun (afterItem_withOperands s it w rsl) (afterItem_sameLines s it) hf

/-- Settles O39: a launched expansion is one at item 0, and it fails at its write `k` by induction on its items. -/
theorem transportFailureEndsOperation : Obligations.TransportFailureEndsOperation := by
  intro s items k reached latched rest hwf hrst hrx hd hk ha all es
  obtain ⟨w, rsl, env, b, hb, he, hrun⟩ :=
    expansion_fails (all := items) (j := 0) hwf hrst hrx hd rfl hk ⟨rest, ha⟩
  have hleft : s.answers.drop (k + 1) = rest := by
    rw [ha, ← List.drop_drop, List.drop_left' List.length_replicate]
    rfl
  refine ⟨_, b, hrun, rfl, hb, ?_, rfl, rfl, rfl, hleft, rfl, ?_⟩
  · have hlatch : (es.foldl (Env.after s.cfg) s.env).expLatch = lastWrite s.env.expLatch es :=
      foldl_after_expLatch _ _ _
    rw [← hlatch]
    exact he.1
  · rw [outputs_raise]
    exact congrArg (fun f => { s.outputs with busy := false, status := 1#2, fault := f, port := lastWrite s.port es })
      (Bool.or_true s.fault)

end Sys2Proof.Machine
end

section
/-! PROOFS. The byte of each phase's write, from the item under way alone (R81, R83, R87), and what follows from it:
the multiplexer's table, and no write with RW set. -/

namespace Sys2Proof.Machine

/-- R81, R83, R87: the byte that a phase of the current item writes, with `PORT` left out of it. -/
def State.lineByte (s : State) : Phase → Byte
  | .hiData | .hiEn0 => s.hiDataByte
  | .hiEn1 => withEn s.cfg s.hiDataByte
  | .loData | .loEn0 => loByte s.cfg s.rsl s.bl s.w
  | .loEn1 => withEn s.cfg (loByte s.cfg s.rsl s.bl s.w)
  | .idle | .release => releaseByte s.cfg s.bl

/-- R83: with the shadow as the phase before has left it, the byte computed from it is the phase's. -/
theorem ShadowValid.phaseByte_eq {s : State} (hwf : s.cfg.wfMasks = true) (hs : ShadowValid s) :
    s.phaseByte = s.lineByte s.ph := by
  cases hp : s.ph <;> simp only [State.phaseByte, State.lineByte, hp]
  case hiEn1 => rw [hs.hiEn1 hp]
  case hiEn0 => rw [hs.hiEn0 hp, withoutEn_withEn (hiDataByte_enClear hwf)]
  case loEn1 => rw [hs.loEn1 hp]
  case loEn0 => rw [hs.loEn0 hp, withoutEn_withEn (loByte_enClear hwf _ _ _)]

/-- R57, R83: setting EN in a composed byte. -/
theorem withEn_expanderByte (p : Params) (n : Nibble) (rs bl : Bool) :
    withEn p (expanderByte p n rs false bl) = expanderByte p n rs true bl :=
  expanderByte_or_enBit p n rs bl

theorem releaseByte_eq_expanderByte (p : Params) (bl : Bool) : releaseByte p bl = expanderByte p 0#4 false false bl := by
  simp [releaseByte, expanderByte, lineBit]

/-- R57, R87: the high phases' data byte is a composition, whichever item is under way. -/
theorem hiDataByte_composed (s : State) : ∃ n rs, s.hiDataByte = expanderByte s.cfg n rs false s.bl := by
  unfold State.hiDataByte
  split
  · exact ⟨_, _, rawByte_eq_expanderByte _ _ _⟩
  all_goals exact ⟨_, _, hiByte_eq_expanderByte _ _ _ _⟩

/-- R57, R81: every phase's byte is a composition, with EN as the phase drives it. -/
theorem lineByte_composed (s : State) (ph : Phase) :
    ∃ n rs, s.lineByte ph = expanderByte s.cfg n rs (enLine ph) s.bl := by
  obtain ⟨n, rs, hhi⟩ := hiDataByte_composed s
  have hlo := loByte_eq_expanderByte s.cfg s.rsl s.bl s.w
  cases ph <;> simp only [State.lineByte, enLine, hhi, hlo, withEn_expanderByte, releaseByte_eq_expanderByte] <;>
    exact ⟨_, _, rfl⟩

/-- R81: in a word transfer it is the multiplexer's. -/
theorem lineByte_xfer {s : State} (hc : s.current = some (.xfer s.rsl s.w)) (ph : Phase) :
    s.lineByte ph = muxByte s.cfg ph s.w s.rsl s.bl := by
  have hhi : s.hiDataByte = expanderByte s.cfg (hiNibble s.w) s.rsl false s.bl := by
    simp only [State.hiDataByte, hc, hiByte_eq_expanderByte]
  cases ph <;> simp only [State.lineByte, muxByte, nibbleSelect, enLine, hhi, loByte_eq_expanderByte,
    withEn_expanderByte, releaseByte_eq_expanderByte]

/-- Settles O43: the write's byte is the phase's, and the advance after it writes nothing. -/
theorem phaseByteFollowsMultiplexer : Obligations.PhaseByteFollowsMultiplexer := by
  intro s rest hs hrst hrun hph hset hcur hans
  have hb : s.phaseByte = muxByte s.cfg s.ph s.w s.rsl s.bl :=
    (hs.shadow.phaseByte_eq (wf_wfMasks hs.cfg)).trans (lineByte_xfer hcur s.ph)
  obtain ⟨ht, hp, he⟩ := advance_writes_nothing (s.emitAll [.write s.phaseByte])
  refine ⟨_, (step_write hrst hrun hph hset).trans (congrArg _ (phaseWrite_ok hans)), ?_⟩
  rw [ht, hp, he, ← hb]
  exact ⟨rfl, rfl, rfl⟩

/-! R84: the read/write line. -/

/-- R57, R84: a phase's write never has RW set. -/
theorem ShadowValid.phaseByte_rw {s : State} (hwf : s.cfg.wfMasks = true) (hs : ShadowValid s) :
    s.phaseByte &&& s.cfg.rwBit = 0#8 := by
  obtain ⟨n, rs, hb⟩ := lineByte_composed s s.ph
  rw [hs.phaseByte_eq hwf, hb]
  exact expanderByte_rw hwf n rs _ _

/-- R84: an event that is no write with RW set, after a trace that has none. -/
theorem RwClear.emit {s t : State} {e : Event} (hs : RwClear s) (hcfg : t.cfg = s.cfg) (ht : t.trace = s.trace ++ [e])
    (he : ∀ b, e = .write b ∨ e = .writeFail b → b &&& s.cfg.rwBit = 0#8) : RwClear t := by
  intro b hb
  rw [hcfg]
  simp only [ht, List.mem_append, List.mem_singleton] at hb
  rcases hb with (hb | hb) | (hb | hb)
  · exact hs b (.inl hb)
  · exact he b (.inl hb.symm)
  · exact hs b (.inr hb)
  · exact he b (.inr hb.symm)

/-- R84: the trace and the parameters as they were. -/
theorem RwClear.congr {s t : State} (hs : RwClear s) (hcfg : t.cfg = s.cfg) (ht : t.trace = s.trace) : RwClear t := by
  unfold RwClear
  rw [hcfg, ht]
  exact hs

/-- R40, R84, R89: the port write of a phase, unanswered, successful or failed. -/
theorem RwClear.phaseWrite {s : State} (hwf : s.cfg.wfMasks = true) (hsh : ShadowValid s) (hs : RwClear s) :
    RwClear s.phaseWrite := by
  have hcfg := (undisturbed_phaseWrite s).cfg
  rcases phaseWrite_cases s with ⟨-, h⟩ | ⟨rest, ha, -⟩ | ⟨reached, latched, rest, -, h⟩
  · rwa [h]
  · refine hs.emit (e := .write s.phaseByte) hcfg ?_ (by rintro b (⟨⟨⟩⟩ | ⟨⟨⟩⟩); exact hsh.phaseByte_rw hwf)
    rw [phaseWrite_ok ha]
    exact (advance_writes_nothing _).1
  · refine hs.emit (e := .writeFail s.phaseByte) hcfg ?_ (by rintro b (⟨⟨⟩⟩ | ⟨⟨⟩⟩); exact hsh.phaseByte_rw hwf)
    rw [h]
    rfl

/-- R84, R88: a wait writes nothing. -/
theorem RwClear.delay {s : State} (hs : RwClear s) (d : Nat) : RwClear (s.delay d) := by
  by_cases hd : d = 0
  · subst hd
    exact hs
  · exact hs.emit (e := .delay d) (delay_cfg s d) (by rw [delay_pos s hd]; rfl) (by simp)

/-- R84: every event of a running operation. -/
theorem RwClear.run {s t : State} (hwf : s.cfg.wfMasks = true) (hsh : ShadowValid s) (hs : RwClear s)
    (h : Runs s t) : RwClear t := by
  cases h with
  | startXfer rs w => exact RwClear.phaseWrite hwf (shadowValid_nextPhase fun b hb => nomatch hb) hs
  | startRaw n => exact RwClear.phaseWrite hwf (shadowValid_nextPhase fun b hb => nomatch hb) hs
  | delay d => exact (hs.delay d).congr rfl rfl
  | complete =>
    unfold State.complete
    split <;> exact hs.congr rfl rfl
  | wait => exact (hs.delay s.settle).congr rfl rfl
  | write => exact hs.phaseWrite hwf hsh

/-- R62: the request port writes nothing. -/
theorem Receives.trace {s t : State} (h : Receives s t) : t.trace = s.trace := by
  cases h with
  | await => rfl
  | turnAway => rfl
  | accept i rest s' items _ ha => rw [launch_trace, ha.frame]

/-- Settles O8: the trace is empty after reset, and of all events only a phase's write adds a byte to it. -/
theorem readWriteLineNeverSet : Obligations.ReadWriteLineNeverSet := by
  refine ⟨fun b hb => ?_, fun s t hs hrw h => ?_⟩
  · have hnil : State.reset.trace = [] := rfl
    simp [hnil] at hb
  · cases stepTo_of_step h with
    | reset r => exact hrw.congr rfl rfl
    | run _ _ _ h => exact hrw.run (wf_wfMasks hs.cfg) hs.shadow h
    | port _ _ _ h => exact hrw.congr h.cfg h.trace

end Sys2Proof.Machine
end

section
/-! PROOFS. The lines around the enable pulses in the writes of an expansion (R83, R160). -/

namespace Sys2Proof.Machine

/-- R83, R160: two consecutive writes of which neither has EN set, or which differ in EN at most. -/
def EnStep (p : Params) (b c : Byte) : Prop := (b ||| c) &&& p.enBit ≠ 0#8 → (b ^^^ c) &&& ~~~p.enBit = 0#8

theorem stableAroundEn_of_isChain {p : Params} {bytes : List Byte} (h : bytes.IsChain (EnStep p)) :
    StableAroundEn p bytes := by
  intro k b c hb hc
  obtain ⟨hk, rfl⟩ := List.getElem?_eq_some_iff.mp hb
  obtain ⟨hk', rfl⟩ := List.getElem?_eq_some_iff.mp hc
  exact List.isChain_iff_getElem.mp h k hk'

/-- R83: EN stays clear. -/
theorem enStep_of_enClear {p : Params} {b c : Byte} (hb : EnClear p b) (hc : EnClear p c) : EnStep p b c :=
  fun h => absurd (or_and_zero hb hc) h

/-- R83: EN rises. -/
theorem enStep_rise (p : Params) (b : Byte) : EnStep p b (b ||| p.enBit) := by
  intro _
  refine BitVec.eq_of_getElem_eq fun i hi => ?_
  cases hb : b[i] <;> simp [hb]

/-- R83: EN falls. -/
theorem enStep_fall (p : Params) (b : Byte) : EnStep p (b ||| p.enBit) b := by
  intro h
  rw [BitVec.xor_comm]
  exact enStep_rise p b (by rwa [BitVec.or_comm])

/-- R83, R160: writes that move the other lines with EN clear only, and begin and end with EN clear. -/
structure PulsesWhole (p : Params) (bytes : List Byte) : Prop where
  steps : bytes.IsChain (EnStep p)
  first : ∀ b ∈ bytes.head?, EnClear p b
  last : ∀ b ∈ bytes.getLast?, EnClear p b

theorem pulsesWhole_nil (p : Params) : PulsesWhole p [] :=
  ⟨.nil, by simp, by simp⟩

theorem pulsesWhole_singleton {p : Params} {b : Byte} (h : EnClear p b) : PulsesWhole p [b] :=
  ⟨.singleton b, fun _ hb => Option.some.inj hb ▸ h, fun _ hb => Option.some.inj hb ▸ h⟩

/-- R83: a data write and its pulse. -/
theorem pulsesWhole_strobe {p : Params} {b : Byte} (h : EnClear p b) : PulsesWhole p [b, b ||| p.enBit, b] :=
  ⟨.cons_cons (enStep_rise p b) (.cons_cons (enStep_fall p b) (.singleton b)), fun _ hb => Option.some.inj hb ▸ h,
    fun _ hb => Option.some.inj hb ▸ h⟩

/-- R83: writes that end with EN clear, before writes that begin with it clear. -/
theorem PulsesWhole.append {p : Params} {bs cs : List Byte} (hb : PulsesWhole p bs) (hc : PulsesWhole p cs) :
    PulsesWhole p (bs ++ cs) where
  steps := hb.steps.append hc.steps fun x hx y hy => enStep_of_enClear (hb.last x hx) (hc.first y hy)
  first x hx := by
    rw [List.head?_append, Option.mem_def, Option.or_eq_some_iff] at hx
    exact hx.elim (hb.first x) fun h => hc.first x h.2
  last x hx := by
    rw [List.getLast?_append, Option.mem_def, Option.or_eq_some_iff] at hx
    exact hx.elim (hc.last x) fun h => hb.last x h.2

/-- R82, R83, R87: the writes of an item. -/
theorem pulsesWhole_events {p : Params} (h : p.wfMasks = true) (bl : Bool) (it : Item) :
    PulsesWhole p (writesOf (it.events p bl)) := by
  cases it with
  | xfer rs w =>
    have hhi := pulsesWhole_strobe (hiByte_enClear h rs bl w)
    have hlo := pulsesWhole_strobe (loByte_enClear h rs bl w)
    rw [writesOf_xfer]
    exact (hhi.append hlo).append (pulsesWhole_singleton (releaseByte_enClear h bl))
  | raw n =>
    rw [Item.events, writesOf_strobeEvents]
    exact pulsesWhole_strobe (rawByte_enClear h bl n)
  | delay t =>
    rw [Item.events, writesOf_waitEvents]
    exact pulsesWhole_nil p

/-- R79, R83: the writes of an expansion. -/
theorem pulsesWhole_eventsOf {p : Params} (h : p.wfMasks = true) (bl : Bool) (items : List Item) :
    PulsesWhole p (writesOf (eventsOf p bl items)) := by
  induction items with
  | nil => exact pulsesWhole_nil p
  | cons it items ih =>
    rw [eventsOf, List.flatMap_cons, writesOf_append]
    exact (pulsesWhole_events h bl it).append ih

/-- Settles O45: the writes of each item begin and end with EN clear, and within an item EN alone moves around a
pulse. -/
theorem dataStableAroundEnable : Obligations.DataStableAroundEnable :=
  fun _ bl items h => stableAroundEn_of_isChain (pulsesWhole_eventsOf h bl items).steps

end Sys2Proof.Machine
end

section
/-! PROOFS. The expansions of the operations (R79), their run, and their port writes and delays (R173). -/

namespace Sys2Proof.Machine

/-- R79: an accepted operation that leaves the parameters alone runs its expansion to the end. -/
theorem completes_of_exec {i : Instr} {s s' : State} {items : List Item} (hex : exec i s = .next (s'.launch items))
    (hcfg : s'.cfg = s.cfg) (hwf : s.cfg.wfMasks = true) (hrst : s'.rst = none) (hrx : s'.rx = [])
    (ha : Answered s' (writeCount items)) : Completes i s s' items :=
  ⟨hex, hcfg ▸ sequencerExecutesExpansion s' items (hcfg ▸ hwf) hrst hrx ha⟩

/-! R173: counting over an expansion. -/

@[simp] theorem writeCount_append (xs ys : List Item) : writeCount (xs ++ ys) = writeCount xs + writeCount ys := by
  simp [writeCount]

@[simp] theorem delaysOf_append (xs ys : List Item) : delaysOf (xs ++ ys) = delaysOf xs ++ delaysOf ys := by
  induction xs with
  | nil => rfl
  | cons it xs ih => cases it <;> simp [delaysOf, ih]

/-- R11, R92: a word and the delay after it have the word's seven writes. -/
@[simp] theorem writeCount_wordItems (p : Params) (rs : Bool) (w : Byte) : writeCount (wordItems p rs w) = 7 := by
  unfold wordItems delayItems
  split <;> rfl

/-- R11: with `T_CMD = 0` a word has no delay after it. -/
theorem delaysOf_wordItems {p : Params} (h : p.tCmd = 0) (rs : Bool) (w : Byte) : delaysOf (wordItems p rs w) = [] := by
  simp [wordItems, delayItems, h, delaysOf]

@[simp] theorem writeCount_clearItems (p : Params) : writeCount (clearItems p) = 7 := rfl

@[simp] theorem writeCount_homeItems (p : Params) : writeCount (homeItems p) = 7 := rfl

@[simp] theorem delaysOf_clearItems (p : Params) : delaysOf (clearItems p) = [3000] := rfl

@[simp] theorem delaysOf_homeItems (p : Params) : delaysOf (homeItems p) = [3000] := rfl

/-- R123: the power-up path is the raw nibble and its delay, or nothing. -/
theorem writeCount_powerUpItems (p : Params) (pwrup : Bool) :
    writeCount (powerUpItems p pwrup) = if pwrup then 3 else 0 := by
  cases pwrup <;> rfl

theorem delaysOf_powerUpItems (p : Params) (pwrup : Bool) :
    delaysOf (powerUpItems p pwrup) = if pwrup then [10000] else [] := by
  cases pwrup <;> rfl

/-- R121: INIT sends five words after the power-up path. -/
theorem writeCount_initItems (s : State) : writeCount (initItems s) = if s.pwrup then 38 else 35 := by
  simp only [initItems, writeCount_append, writeCount_wordItems, writeCount_clearItems, writeCount_homeItems,
    writeCount_powerUpItems]
  cases s.pwrup <;> rfl

theorem delaysOf_initItems {s : State} (h : s.cfg.tCmd = 0) :
    delaysOf (initItems s) = if s.pwrup then [10000, 3000, 3000] else [3000, 3000] := by
  simp only [initItems, delaysOf_append, delaysOf_wordItems h, delaysOf_clearItems, delaysOf_homeItems,
    delaysOf_powerUpItems]
  cases s.pwrup <;> rfl

/-- R126: every character of a text is one word, a newline too. -/
theorem writeCount_textItems (p : Params) (l : Line) (text : List Byte) :
    writeCount (textItems p l text) = 7 * text.length := by
  induction text generalizing l with
  | nil => rfl
  | cons ch text ih =>
    simp only [textItems, List.length_cons]
    split <;> rw [writeCount_append, writeCount_wordItems, ih] <;> omega

theorem delaysOf_textItems {p : Params} (h : p.tCmd = 0) (l : Line) (text : List Byte) :
    delaysOf (textItems p l text) = [] := by
  induction text generalizing l with
  | nil => rfl
  | cons ch text ih =>
    simp only [textItems]
    split <;> rw [delaysOf_append, delaysOf_wordItems h, ih] <;> rfl

/-- R126: MESSAGE sends one word more, the address of its first line. -/
theorem writeCount_messageItems (p : Params) (l : Line) (text : List Byte) :
    writeCount (messageItems p l text) = 7 * (1 + text.length) := by
  rw [messageItems, writeCount_append, writeCount_wordItems, writeCount_textItems]
  omega

theorem delaysOf_messageItems {p : Params} (h : p.tCmd = 0) (l : Line) (text : List Byte) :
    delaysOf (messageItems p l text) = [] := by
  rw [messageItems, delaysOf_append, delaysOf_wordItems h, delaysOf_textItems h]
  rfl

/-- R129: one word for each character. -/
theorem writeCount_stringItems (p : Params) (text : List Byte) : writeCount (stringItems p text) = 7 * text.length := by
  induction text with
  | nil => rfl
  | cons ch text ih =>
    rw [stringItems, writeCount_append, writeCount_wordItems, ih, List.length_cons]
    omega

theorem delaysOf_stringItems {p : Params} (h : p.tCmd = 0) (text : List Byte) : delaysOf (stringItems p text) = [] := by
  induction text with
  | nil => rfl
  | cons ch text ih =>
    rw [stringItems, delaysOf_append, delaysOf_wordItems h, ih]
    rfl

/-- R90, R91: a ready operation of one word completes with the word and the delay `T_CMD` after it. -/
theorem completes_word {i : Instr} {s : State} {rs : Bool} {w : Byte}
    (hex : exec i s = whenReady s (.next (s.launch (wordItems s.cfg rs w)))) (hs : Ready s)
    (hwf : s.cfg.wfMasks = true) (ha : Answered s 7) : Completes i s s (wordItems s.cfg rs w) :=
  completes_of_exec (hex.trans (whenReady_ready hs _)) rfl hwf hs.noReset hs.nothingTaken (by simpa using ha)

/-- Settles O31: both are operations of one word. -/
theorem wrCmdAndPutCharSendOneWord : Obligations.WrCmdAndPutCharSendOneWord :=
  fun _ _ hs hwf ha => ⟨completes_word rfl hs hwf ha, completes_word rfl hs hwf ha⟩

/-- R79: the expansion of each operation that is accepted where the block is configured. BEGIN is not (R120); an
operation that is not named is one word and the delay after it. -/
def AcceptedExpansion (s : State) (items : List Item) : Instr → Prop
  | .begin _ _ => False
  | .init => items = initItems s
  | .clear => items = clearItems s.cfg
  | .home => items = homeItems s.cfg
  | .message _ text => ∃ l, items = messageItems s.cfg l text
  | .putString text => items = stringItems s.cfg text
  | _ => ∃ rs w, items = wordItems s.cfg rs w

/-- R120: a configured block turns BEGIN away. -/
theorem execBegin_ready {s : State} (hs : Ready s) (cols lines : Byte) :
    execBegin cols lines s = .next (s.reject .configuration) := by
  simp [execBegin, whenNoFault, beginInvalid, hs.noFault, hs.configured]

/-- R73, R79: in a ready state a request is turned away, or launched with its operation's expansion. -/
theorem exec_ready {i : Instr} {s t : State} (hs : Ready s) (hi : i.isRequest = true) (h : exec i s = .next t) :
    (∃ e, t = s.reject e) ∨ ∃ (s' : State) (items : List Item), t = s'.launch items ∧ AcceptedExpansion s items i := by
  cases i <;> simp only [Instr.isRequest, reduceCtorEq] at hi
  case begin c l =>
    exact .inl ⟨_, Host.Outcome.next.inj (h.symm.trans (execBegin_ready hs c l))⟩
  all_goals replace h := (whenReady_ready hs _).symm.trans h
  case setCursor col row =>
    split at h
    · cases h; exact .inl ⟨_, rfl⟩
    · split at h
      · cases h; exact .inr ⟨_, _, rfl, _, _, rfl⟩
      · cases h
  case message l text =>
    split at h
    · cases h; exact .inr ⟨_, _, rfl, _, rfl⟩
    · cases h; exact .inl ⟨_, rfl⟩
  case init => cases h; exact .inr ⟨_, _, rfl, rfl⟩
  case clear => cases h; exact .inr ⟨_, _, rfl, rfl⟩
  case home => cases h; exact .inr ⟨_, _, rfl, rfl⟩
  case putString text => cases h; exact .inr ⟨_, _, rfl, rfl⟩
  all_goals cases h; exact .inr ⟨_, _, rfl, _, _, rfl⟩

/-- Settles O48: the writes of an expansion's events are its items', and each operation's items are counted. -/
theorem transactionCounts : Obligations.TransactionCounts := by
  refine ⟨length_writesOf_eventsOf, fun i s t hs hi h => ?_⟩
  rcases exec_ready hs hi h with ⟨e, rfl⟩ | ⟨s', items, rfl, hx⟩
  · exact ⟨fun _ => ⟨rfl, rfl⟩, fun hv => nomatch hv⟩
  refine ⟨fun hv => absurd rfl hv, fun _ => ?_⟩
  rw [launch_expansion]
  cases i
  case begin => exact hx.elim
  case init =>
    obtain rfl := hx
    exact ⟨(writeCount_initItems s).symm, fun ht => (delaysOf_initItems ht).symm⟩
  case clear =>
    obtain rfl := hx
    exact ⟨rfl, fun _ => rfl⟩
  case home =>
    obtain rfl := hx
    exact ⟨rfl, fun _ => rfl⟩
  case message l text =>
    obtain ⟨l, rfl⟩ := hx
    exact ⟨(writeCount_messageItems _ l text).symm, fun ht => (delaysOf_messageItems ht l text).symm⟩
  case putString text =>
    obtain rfl := hx
    exact ⟨(writeCount_stringItems _ text).symm, fun ht => (delaysOf_stringItems ht text).symm⟩
  all_goals
    obtain ⟨rs, w, rfl⟩ := hx
    exact ⟨(writeCount_wordItems _ rs w).symm, fun ht => (delaysOf_wordItems ht rs w).symm⟩

end Sys2Proof.Machine
end

section
/-! PROOFS. The display address decoder (R93 to R101): SETCURSOR, and the lines MESSAGE positions to. -/

namespace Sys2Proof.Machine

/-! R93, R94: the four lines and their offsets. -/

theorem exists_lineOf {n : Nat} (h1 : 1 ≤ n) (h4 : n ≤ 4) : ∃ l : Line, lineOf n = some l ∧ l.val = n - 1 :=
  ⟨⟨n - 1, by omega⟩, dif_pos ⟨by omega, h1⟩, rfl⟩

/-- R10: the offset table, written out. -/
theorem rowOff_eq (l : Line) : Config.rowOff l = [0x00, 0x40, 0x14, 0x54][l.val]?.getD 0 := by
  fin_cases l <;> rfl

/-- R99: the address of a line is its offset, which fits the address field. -/
theorem lineWord_eq (p : Params) (l : Line) :
    lineWord p l = p.setDdramAddr ||| BitVec.ofNat 8 ([0x00, 0x40, 0x14, 0x54][l.val]?.getD 0) := by
  fin_cases l <;> rfl

/-- R100: the line after line 4 is line 1. -/
theorem nextLine_val (l : Line) : (nextLine l).val = (l.val + 1) % 4 := rfl

/-- R100: `n` newlines count the lines modulo 4. -/
theorem iterate_nextLine_val (l : Line) (n : Nat) : (nextLine^[n] l).val = (l.val + n) % 4 := by
  induction n generalizing l with
  | zero => exact (Nat.mod_eq_of_lt l.isLt).symm
  | succ n ih =>
    rw [Function.iterate_succ_apply, ih, nextLine_val]
    omega

/-! R95, R96, R98: what SETCURSOR answers where the block is configured. -/

theorem whenReady_configured {s : State} (hf : s.fault = false) (hc : s.configured = true) (k : Result) :
    whenReady s k = k := by
  simp [whenReady, whenNoFault, hf, hc]

/-- R5, R139: a request that a check turns away reports the check's error at its completion; a `TransportError` is
reported under the sticky fault alone. -/
theorem turnedAway_of_reject {i : Instr} {s : State} {e : ErrorKind} (hex : exec i s = .next (s.reject e))
    (he : e.setsFault = true → s.fault = true) : TurnedAway i s e.status.code := by
  have hfault : (s.fault || e.setsFault) = s.fault := by simpa using he
  refine ⟨_, hex, outputs_reject s e, rfl, rfl, rfl, sameSurroundings_reject s e, fun hrst hrx =>
    ⟨_, step_reject hrst hrx e, ?_, rfl, rfl, rfl, ?_⟩⟩
  · rw [outputs_raise, outputs_reject, reject_fault, hfault]
    rfl
  · constructor <;> rfl

section
variable {s : State} {col row : Byte} (hf : s.fault = false) (hc : s.configured = true)
include hf hc

/-- R98: a zero coordinate. -/
theorem exec_setCursor_zero (h : col = 0#8 ∨ row = 0#8) : exec (.setCursor col row) s = .next (s.reject .request) :=
  (whenReady_configured hf hc _).trans (if_pos h)

/-- R96: the clamped row's line and the once-decremented column. -/
theorem exec_setCursor_line (hcol : col ≠ 0#8) (hrow : row ≠ 0#8) {l : Line}
    (hl : lineOf (clampRow row s.numLines) = some l) :
    exec (.setCursor col row) s =
      .next (s.launch (wordItems s.cfg false (addressWord s.cfg (ddramAddress l (col.toNat - 1))))) := by
  refine (whenReady_configured hf hc _).trans ((if_neg (not_or.mpr ⟨hcol, hrow⟩)).trans ?_)
  rw [hl]

/-- R93: a clamped row without a table entry. -/
theorem exec_setCursor_noLine (hcol : col ≠ 0#8) (hrow : row ≠ 0#8) (hl : lineOf (clampRow row s.numLines) = none) :
    exec (.setCursor col row) s = .fault (.noRowOffset (clampRow row s.numLines)) := by
  refine (whenReady_configured hf hc _).trans ((if_neg (not_or.mpr ⟨hcol, hrow⟩)).trans ?_)
  rw [hl]

end

/-- R95: a row at or beyond the last configured line is the last configured line. -/
theorem clampRow_of_le {row : Byte} {numLines : BitVec 3} (h : numLines.toNat ≤ row.toNat) :
    clampRow row numLines = numLines.toNat := Nat.min_eq_right h

/-- Settles O30: the zero coordinates are turned away, and the other two cases are those where `lineOf` has no line. -/
theorem setCursorDomain : Obligations.SetCursorDomain := by
  refine ⟨fun s col row hf hc h => turnedAway_of_reject (exec_setCursor_zero hf hc h) nofun,
    fun s col row hf hc hcol hrow h => exec_setCursor_noLine hf hc hcol hrow (lineOf_eq_none.mpr ?_)⟩
  rcases h with h | ⟨hlines, hrow⟩
  · exact .inl (by simp [clampRow, h])
  · exact .inr (lt_min hrow hlines)

/-- Settles O52: both rows are clamped to the last configured line. -/
theorem rowBeyondLinesIsClamped : Obligations.RowBeyondLinesIsClamped := by
  intro s col row hs h1 h4 hcol hbeyond
  obtain ⟨l, hl, -⟩ := exists_lineOf h1 h4
  have hlast : (BitVec.ofNat 8 s.numLines.toNat).toNat = s.numLines.toNat := by
    rw [BitVec.toNat_ofNat]
    omega
  have hexec {r : Byte} (hr : s.numLines.toNat ≤ r.toNat) :=
    exec_setCursor_line hs.noFault hs.configured hcol (row := r) (by rintro rfl; exact absurd (h1.trans hr) (by decide))
      ((congrArg lineOf (clampRow_of_le hr)).trans hl)
  exact ⟨_, hexec hbeyond.le, hexec hlast.ge, rfl, List.cons_ne_nil _ _⟩

/-- Settles O29: the clamped row has its line, whose offset is the table's entry. -/
theorem setCursorSendsAddress : Obligations.SetCursorSendsAddress := by
  intro s col row hs hwf ha h1 h4 hcol hrow r sum post
  have hr : row.toNat ≠ 0 := fun h => hrow (BitVec.eq_of_toNat_eq h)
  obtain ⟨l, hl, hval⟩ : ∃ l : Line, lineOf (clampRow row s.numLines) = some l ∧ l.val = r - 1 :=
    exists_lineOf (le_min (Nat.one_le_iff_ne_zero.mpr hr) h1) (min_le_of_right_le h4)
  have hsum : sum = ddramAddress l (col.toNat - 1) := by rw [ddramAddress, rowOff_eq, hval]
  rw [hsum]
  exact completes_word
    ((exec_setCursor_line hs.noFault hs.configured hcol hrow hl).trans (whenReady_ready hs _).symm) hs hwf ha

/-! R126, R127: the words of a MESSAGE, one for each byte of the text after the address of the start line. -/

/-- The words of a text whose current line is `l`. -/
def textWords (p : Params) : Line → List Byte → List (Bool × Byte)
  | _, [] => []
  | l, ch :: text =>
    if ch = p.newline then (false, lineWord p (nextLine l)) :: textWords p (nextLine l) text
    else (true, ch) :: textWords p l text

theorem textItems_eq (p : Params) (l : Line) (text : List Byte) :
    textItems p l text = (textWords p l text).flatMap fun word => wordItems p word.1 word.2 := by
  induction text generalizing l with
  | nil => rfl
  | cons ch text ih =>
    unfold textItems textWords
    split <;> rw [ih, List.flatMap_cons]

theorem length_textWords (p : Params) (l : Line) (text : List Byte) : (textWords p l text).length = text.length := by
  induction text generalizing l with
  | nil => rfl
  | cons ch text ih =>
    unfold textWords
    split <;> rw [List.length_cons, List.length_cons, ih]

/-- R126: byte `k` of a text is sent as a character, or as the address of the line its newline reaches. -/
theorem getElem?_textWords (p : Params) (l : Line) {text : List Byte} {k : Nat} {ch : Byte} (h : text[k]? = some ch) :
    (textWords p l text)[k]? =
      some (if ch = p.newline then (false, lineWord p (nextLine^[(text.take (k + 1)).count p.newline] l))
        else (true, ch)) := by
  induction text generalizing l k with
  | nil => cases h
  | cons c text ih =>
    unfold textWords
    cases k with
    | zero =>
      obtain rfl : c = ch := Option.some.inj h
      by_cases hc : c = p.newline
      · simp [hc]
      · simp [hc]
    | succ k =>
      by_cases hc : c = p.newline
      · simp [hc, ih (nextLine l) h]
      · simp [hc, ih l h]

/-- R126: MESSAGE from a line that exists completes with its expansion. -/
theorem completes_message {s : State} {startLine : Byte} {text : List Byte} {l : Line} (hs : Ready s)
    (hwf : s.cfg.wfMasks = true) (ha : Answered s (7 * (1 + text.length))) (hl : lineOf startLine.toNat = some l) :
    Completes (.message startLine text) s s (messageItems s.cfg l text) := by
  refine completes_of_exec ((whenReady_ready hs _).trans ?_) rfl hwf hs.noReset hs.nothingTaken
    (by rwa [writeCount_messageItems])
  rw [hl]

/-- Settles O32: the expansion is that of `textWords` after the start line's address, read off byte by byte. -/
theorem messageSendsLinesAndCharacters : Obligations.MessageSendsLinesAndCharacters := by
  intro s startLine text hs hwf ha h1 h4 lineAddr post
  obtain ⟨l, hl, hval⟩ := exists_lineOf h1 h4
  have haddr (k : Nat) : lineWord s.cfg (nextLine^[(text.take k).count s.cfg.newline] l) = lineAddr k := by
    rw [lineWord_eq, iterate_nextLine_val, hval]
  refine ⟨(false, lineAddr 0) :: textWords s.cfg l text, ?_, rfl, fun k ch hk => ?_, ?_⟩
  · rw [List.length_cons, length_textWords, Nat.add_comm]
  · rw [List.getElem?_cons_succ, getElem?_textWords s.cfg l hk, haddr]
  · have hitems := completes_message hs hwf ha hl
    rw [messageItems, textItems_eq, show lineWord s.cfg l = lineAddr 0 from haddr 0] at hitems
    exact hitems

end Sys2Proof.Machine
end

section
/-! PROOFS. The register operations (R102 to R118): which registers an acceptance can change, the ten toggles and the
two scrolls. -/

namespace Sys2Proof.Machine

/-! R102: one bit of a register set or cleared, once and again. -/

theorem setFlag_setFlag (v m : Byte) : setFlag (setFlag v m) m = setFlag v m := by
  simp [setFlag, BitVec.or_assoc]

theorem clearFlag_clearFlag (v m : Byte) : clearFlag (clearFlag v m) m = clearFlag v m := by
  simp [clearFlag, BitVec.and_assoc]

theorem clearFlag_setFlag (v m : Byte) : clearFlag (setFlag v m) m = clearFlag v m := by
  simp [clearFlag, setFlag, BitVec.and_or_distrib_right]

theorem setFlag_clearFlag (v m : Byte) : setFlag (clearFlag v m) m = setFlag v m := by
  ext k
  simp [clearFlag, setFlag, Bool.or_and_distrib_right]

/-- R116: clearing a bit that is clear changes nothing. -/
theorem clearFlag_of_clear {v m : Byte} (h : v &&& m = 0#8) : clearFlag v m = v :=
  calc clearFlag v m = v &&& m ||| v &&& ~~~m := by rw [h, BitVec.zero_or, clearFlag]
    _ = v := by rw [← BitVec.and_or_distrib_left, BitVec.or_not_self, BitVec.and_allOnes]

/-! R102: the two control registers the toggles write, and the write that re-emits the register's command word. -/

/-- A control register with toggles: `DCTL` (R103 to R108) or `EMODE` (R109 to R112). -/
inductive ControlRegister where
  | dctl
  | emode

namespace ControlRegister

def get : ControlRegister → State → Byte
  | dctl, s => s.dctl
  | emode, s => s.emode

def set : ControlRegister → State → Byte → State
  | dctl, s, v => { s with dctl := v }
  | emode, s, v => { s with emode := v }

/-- The command under which the register is sent. -/
def command : ControlRegister → Params → Byte
  | dctl, p => p.displayControl
  | emode, p => p.entryModeSet

def other : ControlRegister → ControlRegister
  | dctl => emode
  | emode => dctl

/-- R102: the register takes its new value, and its command word is re-emitted with it; `writeDctl` and `writeEmode`
in one. -/
def write (r : ControlRegister) (s : State) (v : Byte) : State :=
  (r.set s v).launch (wordItems s.cfg false (r.command s.cfg ||| v))

theorem write_dctl (s : State) (v : Byte) : dctl.write s v = writeDctl s v := rfl

theorem write_emode (s : State) (v : Byte) : emode.write s v = writeEmode s v := rfl

variable (r : ControlRegister) (s : State) (v : Byte)

@[simp] theorem set_cfg : (r.set s v).cfg = s.cfg := by cases r <;> rfl

@[simp] theorem set_answers : (r.set s v).answers = s.answers := by cases r <;> rfl

@[simp] theorem write_cfg : (r.write s v).cfg = s.cfg := r.set_cfg s v

@[simp] theorem get_write : r.get (r.write s v) = v := by cases r <;> rfl

@[simp] theorem get_other_write : r.other.get (r.write s v) = r.other.get s := by cases r <;> rfl

/-- A register written twice holds the second value, and the second word alone is to be sent. -/
@[simp] theorem write_write (v' : Byte) : r.write (r.write s v) v' = r.write s v' := by cases r <;> rfl

@[simp] theorem writeCount_write : writeCount (r.write s v).expansion = 7 := writeCount_wordItems _ _ _

variable {s}

theorem ready_set (hs : Ready s) : Ready (r.set s v) := by
  obtain ⟨hf, hc, hrst, hrx⟩ := hs
  cases r <;> exact ⟨hf, hc, hrst, hrx⟩

theorem ready_write (hs : Ready s) : Ready (r.write s v) :=
  have ⟨hf, hc, hrst, hrx⟩ := r.ready_set v hs
  ⟨hf, hc, hrst, hrx⟩

/-- R102: an operation that writes a control register completes with the register's word. -/
theorem completes_write {i : Instr} {r : ControlRegister} {v : Byte} (hex : exec i s = .next (r.write s v))
    (hs : Ready s) (hwf : s.cfg.wfMasks = true) (ha : Answered s 7) :
    Completes i s (r.set s v) (wordItems s.cfg false (r.command s.cfg ||| v)) :=
  have hset := r.ready_set v hs
  completes_of_exec hex (r.set_cfg s v) hwf hset.noReset hset.nothingTaken (by simpa [Answered] using ha)

end ControlRegister

/-! R103 to R112: the five pairs of toggles. -/

/-- Where it is ready, `i` sets and `j` clears the bit `m` of the register `r`. -/
structure TogglePair (i j : Instr) (r : ControlRegister) (m : Params → Byte) : Prop where
  sets : ∀ {s}, Ready s → exec i s = .next (r.write s (setFlag (r.get s) (m s.cfg)))
  clears : ∀ {s}, Ready s → exec j s = .next (r.write s (clearFlag (r.get s) (m s.cfg)))

theorem togglePair_display : TogglePair .display .noDisplay .dctl Params.displayOn :=
  ⟨fun hs => whenReady_ready hs _, fun hs => whenReady_ready hs _⟩

theorem togglePair_cursor : TogglePair .cursor .noCursor .dctl Params.cursorOn :=
  ⟨fun hs => whenReady_ready hs _, fun hs => whenReady_ready hs _⟩

theorem togglePair_blink : TogglePair .blink .noBlink .dctl Params.blinkOn :=
  ⟨fun hs => whenReady_ready hs _, fun hs => whenReady_ready hs _⟩

theorem togglePair_direction : TogglePair .ltr .rtl .emode Params.entryLeft :=
  ⟨fun hs => whenReady_ready hs _, fun hs => whenReady_ready hs _⟩

theorem togglePair_autoscroll : TogglePair .autoscroll .noAutoscroll .emode Params.shiftIncrement :=
  ⟨fun hs => whenReady_ready hs _, fun hs => whenReady_ready hs _⟩

namespace TogglePair
variable {i j : Instr} {r : ControlRegister} {m : Params → Byte} (h : TogglePair i j r m) {s : State} (hs : Ready s)
include h hs

/-- R115: setting again leaves the very state the first setting left, its word to be sent included. -/
theorem sets_twice : ∃ t, exec i s = .next t ∧ exec i t = .next t ∧ writeCount t.expansion = 7 := by
  refine ⟨_, h.sets hs, (h.sets (r.ready_write _ hs)).trans ?_, r.writeCount_write _ _⟩
  simp [setFlag_setFlag]

/-- R115: clearing again, likewise. -/
theorem clears_twice : ∃ t, exec j s = .next t ∧ exec j t = .next t ∧ writeCount t.expansion = 7 := by
  refine ⟨_, h.clears hs, (h.clears (r.ready_write _ hs)).trans ?_, r.writeCount_write _ _⟩
  simp [clearFlag_clearFlag]

/-- R116: setting then clearing leaves the state that clearing alone leaves. -/
theorem clears_after_sets :
    ∃ t, exec i s = .next t ∧ exec j t = .next (r.write s (clearFlag (r.get s) (m s.cfg))) := by
  refine ⟨_, h.sets hs, (h.clears (r.ready_write _ hs)).trans ?_⟩
  simp [clearFlag_setFlag]

/-- R116: clearing then setting leaves the state that setting alone leaves. -/
theorem sets_after_clears :
    ∃ t, exec j s = .next t ∧ exec i t = .next (r.write s (setFlag (r.get s) (m s.cfg))) := by
  refine ⟨_, h.clears hs, (h.sets (r.ready_write _ hs)).trans ?_⟩
  simp [setFlag_clearFlag]

/-- R116: both orders; the other control register is not touched. -/
theorem roundTrip :
    ∃ t u t' u', exec i s = .next t ∧ exec j t = .next u ∧ exec j s = .next t' ∧ exec i t' = .next u' ∧
      r.get u = r.get s &&& ~~~(m s.cfg) ∧ r.get u' = r.get s ||| m s.cfg ∧
      (r.get s &&& m s.cfg = 0#8 → r.get u = r.get s) ∧
      r.other.get u = r.other.get s ∧ r.other.get u' = r.other.get s := by
  obtain ⟨t, hset, hsetClear⟩ := h.clears_after_sets hs
  obtain ⟨t', hclear, hclearSet⟩ := h.sets_after_clears hs
  exact ⟨t, _, t', _, hset, hsetClear, hclear, hclearSet, r.get_write _ _, r.get_write _ _,
    fun hbit => (r.get_write _ _).trans (clearFlag_of_clear hbit), r.get_other_write _ _, r.get_other_write _ _⟩

end TogglePair

/-- Settles O26: three pairs of toggles of `DCTL`. -/
theorem displayControlToggles : Obligations.DisplayControlToggles := by
  intro s hs hwf ha
  have completes {i : Instr} {v : Byte} (hex : exec i s = .next (ControlRegister.dctl.write s v)) :=
    ControlRegister.completes_write hex hs hwf ha
  exact ⟨completes (togglePair_display.sets hs), completes (togglePair_display.clears hs),
    completes (togglePair_cursor.sets hs), completes (togglePair_cursor.clears hs),
    completes (togglePair_blink.sets hs), completes (togglePair_blink.clears hs)⟩

/-- Settles O27: two pairs of toggles of `EMODE`. -/
theorem entryModeToggles : Obligations.EntryModeToggles := by
  intro s hs hwf ha
  have completes {i : Instr} {v : Byte} (hex : exec i s = .next (ControlRegister.emode.write s v)) :=
    ControlRegister.completes_write hex hs hwf ha
  exact ⟨completes (togglePair_direction.sets hs), completes (togglePair_direction.clears hs),
    completes (togglePair_autoscroll.sets hs), completes (togglePair_autoscroll.clears hs)⟩

/-- Settles O28: both are operations of one word, with no register written. -/
theorem scrollsSendConstantWord : Obligations.ScrollsSendConstantWord :=
  fun _ hs hwf ha => ⟨completes_word rfl hs hwf ha, completes_word rfl hs hwf ha⟩

/-- Settles O50: the second acceptance leaves the state the first one left. -/
theorem togglesIdempotent : Obligations.TogglesIdempotent := by
  intro i s hs hi
  suffices hfix : ∃ t, exec i s = .next t ∧ exec i t = .next t ∧ writeCount t.expansion = 7 by
    obtain ⟨t, hfirst, hsecond, hcount⟩ := hfix
    exact ⟨t, t, hfirst, hsecond, rfl, rfl, rfl, hcount⟩
  simp only [List.mem_cons, List.not_mem_nil, or_false] at hi
  rcases hi with rfl | rfl | rfl | rfl | rfl | rfl | rfl | rfl | rfl | rfl
  · exact togglePair_display.sets_twice hs
  · exact togglePair_display.clears_twice hs
  · exact togglePair_cursor.sets_twice hs
  · exact togglePair_cursor.clears_twice hs
  · exact togglePair_blink.sets_twice hs
  · exact togglePair_blink.clears_twice hs
  · exact togglePair_direction.sets_twice hs
  · exact togglePair_direction.clears_twice hs
  · exact togglePair_autoscroll.sets_twice hs
  · exact togglePair_autoscroll.clears_twice hs

/-- Settles O51: three pairs of `DCTL` and two of `EMODE`. -/
theorem togglesRoundTrip : Obligations.TogglesRoundTrip := by
  intro s hs
  simp only [List.forall_mem_cons]
  exact ⟨⟨togglePair_display.roundTrip hs, togglePair_cursor.roundTrip hs, togglePair_blink.roundTrip hs, nofun⟩,
    togglePair_direction.roundTrip hs, togglePair_autoscroll.roundTrip hs, nofun⟩

/-! R117, R118: the registers an acceptance writes are those its rule names. -/

/-- R118: `s'` is `s` but for the registers that the rule of `i` names. -/
structure WritesNamed (i : Instr) (s s' : State) : Prop where
  registers : ∃ func dctl emode pwrup numLines numCols configured,
    s' = { s with
      func := func, dctl := dctl, emode := emode, pwrup := pwrup
      numLines := numLines, numCols := numCols, configured := configured }
  geometry : (∀ cols lines, i ≠ .begin cols lines) →
    s'.func = s.func ∧ s'.numLines = s.numLines ∧ s'.numCols = s.numCols ∧ s'.configured = s.configured
  dctl : i ∉ displayToggles → s'.dctl = s.dctl
  emode : i ∉ entryToggles → s'.emode = s.emode
  pwrup : i ≠ .init → s'.pwrup = s.pwrup

theorem WritesNamed.refl (i : Instr) (s : State) : WritesNamed i s s :=
  ⟨⟨_, _, _, _, _, _, _, rfl⟩, fun _ => ⟨rfl, rfl, rfl, rfl⟩, fun _ => rfl, fun _ => rfl, fun _ => rfl⟩

theorem writesNamed_dctl {i : Instr} (hi : i ∈ displayToggles) (s : State) (v : Byte) :
    WritesNamed i s { s with dctl := v } :=
  { WritesNamed.refl i s with registers := ⟨_, _, _, _, _, _, _, rfl⟩, dctl := fun hn => absurd hi hn }

theorem writesNamed_emode {i : Instr} (hi : i ∈ entryToggles) (s : State) (v : Byte) :
    WritesNamed i s { s with emode := v } :=
  { WritesNamed.refl i s with registers := ⟨_, _, _, _, _, _, _, rfl⟩, emode := fun hn => absurd hi hn }

/-- R102, R117 to R119, R121: the acceptances of `exec_request`, one by one. -/
theorem Accepted.writesNamed {i : Instr} {s s' : State} {items : List Item} (h : Accepted i s s' items) :
    WritesNamed i s s' := by
  rcases h with ⟨c, l, rfl, -, -, rfl⟩ | ⟨-, rfl, rfl, -⟩ | ⟨-, hi, -, f, -, rfl | rfl⟩ | ⟨-, hi, -, f, -, rfl | rfl⟩ |
    ⟨-, rfl, -, -, -⟩
  case inl =>
    exact { WritesNamed.refl _ s with
      registers := ⟨_, _, _, _, _, _, _, rfl⟩
      geometry := fun hn => absurd rfl (hn c l) }
  case inr.inl =>
    exact { WritesNamed.refl _ s with registers := ⟨_, _, _, _, _, _, _, rfl⟩, pwrup := fun hn => absurd rfl hn }
  · exact writesNamed_dctl hi s _
  · exact writesNamed_dctl hi s _
  · exact writesNamed_emode hi s _
  · exact writesNamed_emode hi s _
  · exact .refl i _

/-- Settles O21: a request turned away writes no register, an accepted one those of `WritesNamed`. -/
theorem onlyNamedRegistersChange : Obligations.OnlyNamedRegistersChange := by
  intro i s t hi h
  rcases exec_request hi h with ⟨e, rfl, -⟩ | ⟨-, s', items, rfl, ha⟩
  · exact ⟨rfl, rfl, rfl, rfl, rfl, rfl, rfl, rfl, rfl, rfl, rfl, rfl, rfl, rfl,
      fun _ => ⟨rfl, rfl, rfl, rfl⟩, fun _ => rfl, fun _ => rfl, fun _ => rfl⟩
  · obtain ⟨⟨_, _, _, _, _, _, _, rfl⟩, hgeometry, hdctl, hemode, hpwrup⟩ := ha.writesNamed
    exact ⟨rfl, rfl, rfl, rfl, rfl, rfl, rfl, rfl, rfl, rfl, rfl, rfl, rfl, rfl, hgeometry, hdctl, hemode, hpwrup⟩

end Sys2Proof.Machine
end

section
/-! PROOFS. Configuration, bring-up and text output (R119 to R130): BEGIN, INIT, CLEAR, HOME, MESSAGE and PUTSTRING,
and the `CONFIGURED` check before every operation but BEGIN (R134). -/

namespace Sys2Proof.Machine

/-! R73, R134: the check of `CONFIGURED`. -/

/-- R73: every operation but BEGIN stands under the two checks of `whenReady`. -/
theorem exec_eq_whenReady {i : Instr} (hi : i.isRequest = true) (hb : ∀ cols lines, i ≠ .begin cols lines)
    (s : State) : ∃ k, exec i s = whenReady s k := by
  cases i <;> simp only [Instr.isRequest, reduceCtorEq] at hi
  case begin cols lines => exact absurd rfl (hb cols lines)
  all_goals exact ⟨_, rfl⟩

/-- R134: the second of the two checks. -/
theorem whenReady_unconfigured {s : State} (hf : s.fault = false) (hc : s.configured = false) (k : Result) :
    whenReady s k = .next (s.reject .request) := by
  simp [whenReady, whenNoFault, hf, hc]

/-- Settles O19: the operation stands under `whenReady`, which turns it away. -/
theorem unconfiguredOperationIsRejected : Obligations.UnconfiguredOperationIsRejected := by
  intro i s hi hb hf hc
  obtain ⟨k, hk⟩ := exec_eq_whenReady hi hb s
  exact turnedAway_of_reject (hk.trans (whenReady_unconfigured hf hc k)) nofun

/-! R119, R120: BEGIN. -/

/-- R120: the four causes. -/
theorem beginInvalid_eq_true_iff {cols lines : Byte} {s : State} :
    beginInvalid cols lines s = true ↔ cols = 0#8 ∨ lines = 0#8 ∨ 4 < lines.toNat ∨ s.configured = true := by
  have hmax : decide (Config.maxLines < lines.toNat) = true ↔ 4 < lines.toNat := decide_eq_true_iff
  simp only [beginInvalid, Bool.or_eq_true, beq_iff_eq, hmax]
  tauto

section
variable {s : State} {cols lines : Byte} (hf : s.fault = false)
include hf

/-- R120: BEGIN outside its domain is turned away. -/
theorem exec_begin_invalid (h : beginInvalid cols lines s = true) :
    exec (.begin cols lines) s = .next (s.reject .configuration) :=
  (if_neg (Bool.eq_false_iff.mp hf)).trans (if_pos h)

/-- R119: BEGIN in its domain writes the geometry and is launched with nothing to execute. -/
theorem exec_begin_valid (h : ¬ beginInvalid cols lines s = true) :
    exec (.begin cols lines) s =
      .next (({ s with
        numCols := cols
        numLines := lines.setWidth 3
        func := functionForLines s.cfg s.func lines
        configured := true } : State).launch []) :=
  (if_neg (Bool.eq_false_iff.mp hf)).trans (if_neg h)

end

/-- R79, R175: an empty expansion is completed by the next step, whatever the parameters are. -/
theorem step_launch_nil {s : State} (hrst : s.rst = none) (hrx : s.rx = []) :
    step (s.launch []) = .next (s.finish []) := by
  have hrun : (s.launch []).running = true := by simp [State.running, hrx]
  exact (step_complete (s := s.launch []) hrst hrun rfl rfl).trans (congrArg _ (complete_running rfl))

/-- Settles O22: none of R120's causes holds, and the empty expansion is completed by one step. -/
theorem beginSetsGeometry : Obligations.BeginSetsGeometry := by
  intro s cols lines hf hc hrst hrx hcols h1 h4
  have hlines : lines ≠ 0#8 := by rintro rfl; exact absurd h1 (by decide)
  have hvalid : ¬ beginInvalid cols lines s = true := by simp [beginInvalid_eq_true_iff, hcols, hlines, hc, h4]
  have hexec := exec_begin_valid hf hvalid
  rw [← BitVec.ofNat_toNat] at hexec
  exact ⟨hexec, runSteps_succ (n := 0) (step_launch_nil hrst hrx)⟩

/-- Settles O23: the causes are those that the domain check finds. -/
theorem beginRejectsInvalidGeometry : Obligations.BeginRejectsInvalidGeometry :=
  fun _ _ _ hf h => turnedAway_of_reject (exec_begin_invalid hf (beginInvalid_eq_true_iff.mpr h)) nofun

/-! R121 to R125: bring-up. -/

/-- R121: the expansion of INIT, each word apart from the delay after it. -/
theorem initItems_eq (s : State) :
    initItems s =
      powerUpItems s.cfg s.pwrup ++
        [.xfer false (functionSetWord s)] ++ delayItems s.cfg.tCmd ++
        [.xfer false (displayControlWord s)] ++ delayItems s.cfg.tCmd ++
        [.xfer false (entryModeSetWord s)] ++ delayItems s.cfg.tCmd ++
        [.xfer false s.cfg.clearDisplay, .delay Config.tClearHome,
          .xfer false s.cfg.returnHome, .delay Config.tClearHome] := by
  simp [initItems, wordItems, clearItems, homeItems]

/-- Settles O24: INIT is launched with `PWRUP` cleared, and its expansion runs. -/
theorem initRunsBringUpSequence : Obligations.InitRunsBringUpSequence := by
  intro s hs hwf ha post
  have hcompletes : Completes .init s { s with pwrup := false } (initItems s) :=
    completes_of_exec (whenReady_ready hs _) rfl hwf hs.noReset hs.nothingTaken (by rwa [writeCount_initItems])
  rw [initItems_eq] at hcompletes
  exact hcompletes

/-- Settles O25: each is launched with its one word and the delay. -/
theorem clearAndHomeSendAndDelay : Obligations.ClearAndHomeSendAndDelay :=
  fun _ hs hwf ha =>
    ⟨completes_of_exec (whenReady_ready hs _) rfl hwf hs.noReset hs.nothingTaken ha,
      completes_of_exec (whenReady_ready hs _) rfl hwf hs.noReset hs.nothingTaken ha⟩

/-! R126 to R130: text output. -/

section
variable {s : State} {startLine : Byte} (hf : s.fault = false) (hc : s.configured = true)
include hf hc

/-- R126: MESSAGE from a line that exists. -/
theorem exec_message_line {l : Line} (hl : lineOf startLine.toNat = some l) (text : List Byte) :
    exec (.message startLine text) s = .next (s.launch (messageItems s.cfg l text)) := by
  refine (whenReady_configured hf hc _).trans ?_
  rw [hl]

/-- R128: MESSAGE from a line that does not exist. -/
theorem exec_message_noLine (hl : lineOf startLine.toNat = none) (text : List Byte) :
    exec (.message startLine text) s = .next (s.reject .request) := by
  refine (whenReady_configured hf hc _).trans ?_
  rw [hl]

end

/-- Settles O33: the line numbers outside 1 to 4 are those that have no line. -/
theorem messageRejectsStartLine : Obligations.MessageRejectsStartLine := by
  intro s startLine text hf hc h
  have hl : lineOf startLine.toNat = none := lineOf_eq_none.mpr (h.imp_left (congrArg BitVec.toNat))
  exact turnedAway_of_reject (exec_message_noLine hf hc hl text) nofun

/-- Settles O34: the expansion is one character word for each byte, and it runs. -/
theorem putStringSendsVerbatim : Obligations.PutStringSendsVerbatim := by
  intro s text hs hwf ha post
  have hcompletes : Completes (.putString text) s s (stringItems s.cfg text) :=
    completes_of_exec (whenReady_ready hs _) rfl hwf hs.noReset hs.nothingTaken (by rwa [writeCount_stringItems])
  rw [stringItems_eq] at hcompletes
  exact hcompletes

/-- R126, R129: in a text without a NEWLINE every byte is a character. -/
theorem textItems_eq_stringItems {p : Params} (l : Line) {text : List Byte} (h : p.newline ∉ text) :
    textItems p l text = stringItems p text := by
  induction text with
  | nil => rfl
  | cons ch text ih =>
    obtain ⟨hch, htext⟩ := not_or.mp (mt List.mem_cons.mpr h)
    rw [textItems, if_neg (Ne.symm hch), ih htext, stringItems]

/-- R95, R96, R99: SETCURSOR to column 1 of a configured line sends the line's address. -/
theorem exec_setCursor_lineStart {s : State} (hs : Ready s) {row : Byte} (h1 : 1 ≤ row.toNat)
    (hrow : row.toNat ≤ s.numLines.toNat) {l : Line} (hl : lineOf row.toNat = some l) :
    exec (.setCursor 1#8 row) s = .next (s.launch (wordItems s.cfg false (lineWord s.cfg l))) := by
  have hne : row ≠ 0#8 := by rintro rfl; exact absurd h1 (by decide)
  have hclamp : clampRow row s.numLines = row.toNat := Nat.min_eq_left hrow
  exact exec_setCursor_line hs.noFault hs.configured (by decide) hne ((congrArg lineOf hclamp).trans hl)

/-- Settles O49: the expansion of MESSAGE is SETCURSOR's followed by PUTSTRING's. -/
theorem messageIsSetCursorThenPutString : Obligations.MessageIsSetCursorThenPutString := by
  intro s row text hs h4 h1 hrow hnl
  obtain ⟨l, hl, -⟩ := exists_lineOf h1 (hrow.trans h4)
  refine ⟨_, _, _, exec_message_line hs.noFault hs.configured hl text, exec_setCursor_lineStart hs h1 hrow hl,
    whenReady_ready hs _, ?_⟩
  simp only [launch_expansion, messageItems, textItems_eq_stringItems l hnl]
  exact List.flatMap_append

end Sys2Proof.Machine
end

section
/-! PROOFS. The sticky fault at the acceptance of a request (R144): the check that every operation stands under. -/

namespace Sys2Proof.Machine

/-- R73, R144: every operation, BEGIN included, stands under the check of the sticky fault. -/
theorem exec_eq_whenNoFault {i : Instr} (hi : i.isRequest = true) (s : State) :
    ∃ k, exec i s = whenNoFault s k := by
  by_cases hb : ∃ cols lines, i = .begin cols lines
  · obtain ⟨cols, lines, rfl⟩ := hb
    exact ⟨_, rfl⟩
  · obtain ⟨k, hk⟩ := exec_eq_whenReady hi (fun cols lines h => hb ⟨cols, lines, h⟩) s
    exact ⟨_, hk⟩

/-- R144: under the sticky fault nothing behind the check is reached. -/
theorem whenNoFault_faulted {s : State} (hf : s.fault = true) (k : Result) :
    whenNoFault s k = .next (s.reject .transport) :=
  if_pos hf

/-- Settles O20: the check turns the operation away with a `TransportError`, which leaves `FAULT` as it is. -/
theorem stickyFaultRejectsOperations : Obligations.StickyFaultRejectsOperations := by
  intro i s hi hf
  obtain ⟨k, hk⟩ := exec_eq_whenNoFault hi s
  exact turnedAway_of_reject (hk.trans (whenNoFault_faulted hf k)) fun _ => hf

end Sys2Proof.Machine
end

section
/-! PROOFS. The reset event, and what the steps of a running or of an idle block leave alone: the sticky fault and the
geometry (R153), the request port and the registers (R164). -/

namespace Sys2Proof.Machine

/-! R20: the sticky fault over the events of a running operation. -/

theorem fault_raise {s : State} (hf : s.fault = true) (e : ErrorKind) : (s.raise e).fault = true :=
  Bool.or_eq_true_iff.mpr (.inl hf)

theorem fault_phaseWrite {s : State} (hf : s.fault = true) : s.phaseWrite.fault = true := by
  rcases phaseWrite_cases s with ⟨-, h⟩ | ⟨rest, -, h⟩ | ⟨reached, latched, rest, -, h⟩ <;> rw [h]
  · exact hf
  · obtain ⟨hadv, -⟩ := advance_status (({ s with answers := rest } : State).portWrite s.phaseByte)
    exact hadv.trans hf
  · exact fault_raise hf .transport

theorem fault_complete {s : State} (hf : s.fault = true) : s.complete.fault = true := by
  cases hv : s.verdict with
  | none => rw [complete_running hv]; exact hf
  | some e => rw [complete_rejected hv]; exact fault_raise hf e

/-- R20, R153: no event of a running operation clears `FAULT`. -/
theorem Runs.fault {s t : State} (h : Runs s t) (hf : s.fault = true) : t.fault = true := by
  cases h with
  | startXfer rs w => exact fault_phaseWrite hf
  | startRaw n => exact fault_phaseWrite hf
  | delay d => exact (delay_fault s d).trans hf
  | complete => exact fault_complete hf
  | wait => exact (delay_fault s s.settle).trans hf
  | write => exact fault_phaseWrite hf

/-- R20, R144: under the sticky fault the request port accepts no operation, and it does not clear `FAULT`. -/
theorem Receives.fault {s t : State} (h : Receives s t) (hf : s.fault = true) : t.fault = true := by
  cases h with
  | await => exact hf
  | turnAway => exact hf
  | accept i rest s' items hf' => exact absurd (hf'.symm.trans hf) (by decide)

/-- R27, R28, R29: the block is configured, and the geometry is that of `s`. -/
def KeepsGeometry (s t : State) : Prop := t.configured = true ∧ t.numLines = s.numLines ∧ t.numCols = s.numCols

/-- R120, R153: BEGIN alone writes the geometry, and it is turned away once the block is configured. -/
theorem Accepted.keepsGeometry {i : Instr} {s s' : State} {items : List Item} (ha : Accepted i s s' items)
    (hc : s.configured = true) : KeepsGeometry s s' := by
  rcases ha with ⟨c, l, -, hb, -, rfl⟩ | ⟨-, -, rfl, -⟩ | ⟨-, -, -, f, -, rfl | rfl⟩ | ⟨-, -, -, f, -, rfl | rfl⟩ |
    ⟨-, rfl, -⟩
  · have hinvalid : beginInvalid c l s = true := beginInvalid_eq_true_iff.mpr (.inr (.inr (.inr hc)))
    exact absurd (hb.symm.trans hinvalid) (by decide)
  all_goals exact ⟨hc, rfl, rfl⟩

theorem Receives.keepsGeometry {s t : State} (h : Receives s t) (hc : s.configured = true) : KeepsGeometry s t := by
  cases h with
  | await => exact ⟨hc, rfl, rfl⟩
  | turnAway => exact ⟨hc, rfl, rfl⟩
  | accept i rest s' items _ ha => exact ha.keepsGeometry hc

theorem Undisturbed.keepsGeometry {s t : State} (h : Undisturbed s t) (hc : s.configured = true) : KeepsGeometry s t :=
  ⟨h.configured.trans hc, h.numLines, h.numCols⟩

/-- R153, R164: a step without the reset input is an event of the running operation or an action of the request
port. -/
theorem runs_or_receives_of_step {s t : State} (hrst : s.rst = none) (h : step s = .next t) :
    Runs s t ∨ Receives s t := by
  cases stepTo_of_step h with
  | reset r hr => exact absurd (hrst.symm.trans hr) (by simp)
  | run _ _ _ h => exact .inl h
  | port _ _ _ h => exact .inr h

/-- Settles O2: the reset event is `applyReset`, and neither an event of a running operation nor an action of the
request port clears the fault or a geometry once it is set. -/
theorem resetEventRestoresAndAloneClears : Obligations.ResetEventRestoresAndAloneClears := by
  constructor
  · intro s r hr
    exact ⟨_, step_reset hr, rfl, rfl, rfl, rfl, rfl, rfl, rfl, rfl, rfl, rfl, rfl, rfl, rfl, rfl, rfl, rfl⟩
  · intro s t hrst h
    rcases runs_or_receives_of_step hrst h with h | h
    · exact ⟨h.fault, h.undisturbed.keepsGeometry⟩
    · exact ⟨h.fault, h.keepsGeometry⟩

/-- Settles O3: the reset event is `applyReset`, which hands these fields on. -/
theorem resetEventEmitsNothing : Obligations.ResetEventEmitsNothing := fun _ _ hr =>
  ⟨_, step_reset hr, rfl, rfl, rfl, rfl, rfl, rfl⟩

/-- Settles O17: the step is an event of the running operation, and those leave all of this undisturbed. -/
theorem runningOperationHoldsRequestsOff : Obligations.RunningOperationHoldsRequestsOff := by
  intro s t hrst hrun h
  have hu : Undisturbed s t := (runs_of_sequence ((step_running hrst hrun).symm.trans h)).undisturbed
  exact ⟨hu.reqIn, hu.rx, hu.cfg, hu.rst.trans hrst, hu.func, hu.dctl, hu.emode, hu.dshift, hu.bl, hu.pwrup,
    hu.numLines, hu.numCols, hu.configured⟩

end Sys2Proof.Machine
end

section
/-! PROOFS. The steps that are left of a running operation, counted down one by one (R17, R79, R83, R175). -/

namespace Sys2Proof.Machine

/-- R5: what a step of a running operation is to the transport: a port write, which takes an answer, or not. A delay item
is a step without a write even if it is no event (R88). -/
inductive StepKind where
  | wait
  | write
  deriving DecidableEq

/-- R83, R88: the step of a wait, if there is one. -/
def waitKinds (t : Nat) : List StepKind := if t = 0 then [] else [.wait]

/-- R83: the steps of a phase: the wait its write owes, and the write. -/
def Phase.stepKinds (p : Params) (ph : Phase) : List StepKind := waitKinds (settleBefore p ph) ++ [.write]

/-- R82, R87, R88: the phases of an item, each with one port write, in order. -/
def Item.phases : Item → List Phase
  | .xfer _ _ => [.hiData, .hiEn1, .hiEn0, .loData, .loEn1, .loEn0, .release]
  | .raw _ => [.hiData, .hiEn1, .hiEn0]
  | .delay _ => []

/-- R17: the phases of an item that follow `ph`. -/
def Item.phasesAfter (it : Item) (ph : Phase) : List Phase := it.phases.drop (it.phases.idxOf ph + 1)

/-- R5, R88: the steps of an item. -/
def Item.stepKinds (p : Params) : Item → List StepKind
  | .delay _ => [.wait]
  | it => it.phases.flatMap (Phase.stepKinds p)

/-- R79: the steps of the items of an expansion. -/
def expansionKinds (p : Params) (items : List Item) : List StepKind := items.flatMap (Item.stepKinds p)

/-- R17, R79: the steps a running operation has left before its completion. In `IDLE` they are those of the item `ITEM`
counts to and of the items after it; in a phase, those of that phase, of the current item's later phases and of the
items after it. -/
def State.stepsLeft (s : State) : List StepKind :=
  if s.ph = .idle then expansionKinds s.cfg (s.expansion.drop s.item)
  else
    waitKinds s.settle ++ .write :: ((s.current.elim [] (·.phasesAfter s.ph)).flatMap (Phase.stepKinds s.cfg) ++
      expansionKinds s.cfg (s.expansion.drop (s.item + 1)))

/-! The steps of an item and of an expansion against the counts of the model. -/

theorem waitKinds_pos {t : Nat} (h : t ≠ 0) : waitKinds t = [.wait] := if_neg h

@[simp] theorem length_waitKinds (t : Nat) : (waitKinds t).length = (waitEvents t).length := by
  unfold waitKinds waitEvents
  split <;> rfl

@[simp] theorem count_write_waitKinds (t : Nat) : (waitKinds t).count .write = 0 := by
  unfold waitKinds
  split <;> rfl

@[simp] theorem length_phase_stepKinds (p : Params) (ph : Phase) :
    (ph.stepKinds p).length = (waitEvents (settleBefore p ph)).length + 1 := by
  simp [Phase.stepKinds]

@[simp] theorem count_write_phase_stepKinds (p : Params) (ph : Phase) : (ph.stepKinds p).count .write = 1 := by
  simp [Phase.stepKinds]

theorem length_item_stepKinds (p : Params) (it : Item) : (it.stepKinds p).length = it.steps p := by
  have h0 : (waitEvents 0).length = 0 := rfl
  cases it with
  | xfer rs w => simp [Item.stepKinds, Item.phases, Item.steps, strobeWaits, settleBefore, h0]; omega
  | raw n => simp [Item.stepKinds, Item.phases, Item.steps, strobeWaits, settleBefore, h0]; omega
  | delay t => rfl

theorem count_write_item_stepKinds (p : Params) (it : Item) : (it.stepKinds p).count .write = it.writes := by
  cases it <;> simp [Item.stepKinds, Item.phases, Item.writes]

/-- R173: the steps of an expansion that are writes. -/
theorem count_write_expansionKinds (p : Params) (items : List Item) :
    (expansionKinds p items).count .write = writeCount items := by
  simp only [expansionKinds, writeCount, List.count_flatMap, Function.comp_def, count_write_item_stepKinds]

/-- The steps of an expansion, and one for the completion. -/
theorem stepCount_eq_length (p : Params) (items : List Item) :
    stepCount p items = (expansionKinds p items).length + 1 := by
  simp only [expansionKinds, stepCount, List.length_flatMap, length_item_stepKinds]

/-! R17: the phases of an item. -/

/-- R17: a phase of an item and those after it are the end of the item's phases. -/
theorem Item.cons_phasesAfter {it : Item} {ph : Phase} (h : ph ∈ it.phases) :
    ph :: it.phasesAfter ph = it.phases.drop (it.phases.idxOf ph) := by
  have hlt := List.idxOf_lt_length_of_mem h
  rw [List.drop_eq_getElem_cons hlt, List.getElem_idxOf hlt]
  rfl

/-- R17, R87: outside `IDLE` the sequencer is in a phase of the current item. -/
theorem SequencingValid.phase_mem {s : State} (hs : SequencingValid s) (hph : s.ph ≠ .idle) :
    ∃ it, s.current = some it ∧ s.ph ∈ it.phases := by
  rcases hs.phase hph with h | ⟨⟨n, h⟩, hp⟩
  · refine ⟨_, h, ?_⟩
    cases hp : s.ph <;> simp [Item.phases, hp] at hph ⊢
  · exact ⟨_, h, by simpa [Item.phases] using hp⟩

/-- R17, R87: a successful write leads to the phase that follows in the current item, or ends the item in its last. -/
theorem advance_phasesAfter {s : State} {it : Item} (hc : s.current = some it) (hm : s.ph ∈ it.phases) :
    (∃ ph env, ph ≠ .idle ∧ it.phasesAfter s.ph = ph :: it.phasesAfter ph ∧
      s.advance = { s.nextPhase ph with env := env }) ∨
    (it.phasesAfter s.ph = [] ∧ s.advance = s.nextItem) := by
  cases it with
  | xfer rs w =>
    cases hp : s.ph <;> simp only [State.advance, hp, hc]
    case idle => simp [Item.phases, hp] at hm
    case hiData => exact .inl ⟨.hiEn1, s.env, by decide, rfl, rfl⟩
    case hiEn1 => exact .inl ⟨.hiEn0, s.env, by decide, rfl, rfl⟩
    case hiEn0 => exact .inl ⟨.loData, s.env, by decide, rfl, rfl⟩
    case loData => exact .inl ⟨.loEn1, s.env, by decide, rfl, rfl⟩
    case loEn1 => exact .inl ⟨.loEn0, s.env, by decide, rfl, rfl⟩
    case loEn0 => exact .inl ⟨.release, s.owed, by decide, rfl, rfl⟩
    case release => exact .inr ⟨rfl, trivial⟩
  | raw n =>
    have hm' : s.ph = .hiData ∨ s.ph = .hiEn1 ∨ s.ph = .hiEn0 := by simpa [Item.phases] using hm
    rcases hm' with hp | hp | hp <;> simp only [State.advance, hp, hc]
    · exact .inl ⟨.hiEn1, s.env, by decide, rfl, rfl⟩
    · exact .inl ⟨.hiEn0, s.env, by decide, rfl, rfl⟩
    · exact .inr ⟨rfl, trivial⟩
  | delay t => exact absurd hm List.not_mem_nil

/-! R17, R79: what is left of a running operation, over the sequencer's moves. -/

theorem stepsLeft_idle {s : State} (hph : s.ph = .idle) :
    s.stepsLeft = expansionKinds s.cfg (s.expansion.drop s.item) := if_pos hph

theorem stepsLeft_phase {s : State} {it : Item} (hph : s.ph ≠ .idle) (hc : s.current = some it) :
    s.stepsLeft =
      waitKinds s.settle ++ .write :: ((it.phasesAfter s.ph).flatMap (Phase.stepKinds s.cfg) ++
        expansionKinds s.cfg (s.expansion.drop (s.item + 1))) := by
  rw [State.stepsLeft, if_neg hph, hc]
  rfl

/-- R79: the current item's steps come first among those of the items that are left. -/
theorem expansionKinds_drop_item {s : State} {it : Item} (hc : s.current = some it) :
    expansionKinds s.cfg (s.expansion.drop s.item) =
      it.stepKinds s.cfg ++ expansionKinds s.cfg (s.expansion.drop (s.item + 1)) := by
  obtain ⟨hlt, hit⟩ := List.getElem?_eq_some_iff.mp hc
  rw [List.drop_eq_getElem_cons hlt, hit]
  rfl

/-- R80, R87: an item with writes starts in its first phase, with none of its steps made. -/
theorem stepsLeft_start {s : State} {it : Item} (hph : s.ph = .idle) (hc : s.current = some it)
    (hk : it.stepKinds s.cfg = .write :: (it.phasesAfter .hiData).flatMap (Phase.stepKinds s.cfg)) :
    (s.nextPhase .hiData).stepsLeft = s.stepsLeft := by
  rw [stepsLeft_idle hph, expansionKinds_drop_item hc, hk]
  exact stepsLeft_phase (s := s.nextPhase .hiData) (by simp) hc

/-- R17: a successful write is the one step made. -/
theorem stepsLeft_advance {s : State} (hs : SequencingValid s) (hph : s.ph ≠ .idle) (hset : s.settle = 0) :
    s.stepsLeft = .write :: s.advance.stepsLeft := by
  obtain ⟨it, hc, hm⟩ := hs.phase_mem hph
  rw [stepsLeft_phase hph hc, hset]
  refine congrArg (StepKind.write :: ·) ?_
  rcases advance_phasesAfter hc hm with ⟨ph, env, hne, hafter, hadv⟩ | ⟨hafter, hadv⟩ <;> rw [hafter, hadv]
  · rw [stepsLeft_phase (s := { s.nextPhase ph with env := env }) hne hc]
    simp [Phase.stepKinds]
  · rw [stepsLeft_idle (s := s.nextItem) rfl]
    rfl

/-- R17: the steps from a phase of an item on are among the item's. -/
theorem Item.stepKinds_from_phase (p : Params) {it : Item} {ph : Phase} (h : ph ∈ it.phases) :
    (ph.stepKinds p ++ (it.phasesAfter ph).flatMap (Phase.stepKinds p)).Sublist (it.stepKinds p) := by
  have hit : it.stepKinds p = it.phases.flatMap (Phase.stepKinds p) := by
    cases it with
    | xfer rs w => rfl
    | raw n => rfl
    | delay t => exact absurd h List.not_mem_nil
  rw [hit, ← List.flatMap_cons, Item.cons_phasesAfter h]
  exact (List.drop_sublist _ _).flatMap _

/-- R79: a running operation has no other steps left than those of its expansion. -/
theorem SequencingValid.stepsLeft_sublist {s : State} (hs : SequencingValid s) :
    s.stepsLeft.Sublist (expansionKinds s.cfg s.expansion) := by
  have hitems : (expansionKinds s.cfg (s.expansion.drop s.item)).Sublist (expansionKinds s.cfg s.expansion) :=
    (List.drop_sublist _ _).flatMap _
  by_cases hph : s.ph = .idle
  · rwa [stepsLeft_idle hph]
  · obtain ⟨it, hc, hm⟩ := hs.phase_mem hph
    have hwait : (waitKinds s.settle).Sublist (waitKinds (settleBefore s.cfg s.ph)) := by
      rcases hs.settle with h | h <;> rw [h]
      exact List.nil_sublist _
    have hphase : (waitKinds s.settle ++ [StepKind.write] ++ (it.phasesAfter s.ph).flatMap (Phase.stepKinds s.cfg)).Sublist
        (it.stepKinds s.cfg) :=
      ((hwait.append_right _).append_right _).trans (Item.stepKinds_from_phase s.cfg hm)
    rw [expansionKinds_drop_item hc] at hitems
    rw [stepsLeft_phase hph hc, List.append_cons, ← List.append_assoc]
    exact (hphase.append_right _).trans hitems

/-! R175: every step of a running operation makes one of the steps that are left, or ends the operation. -/

/-- R40: the transport has an answer for each of the writes that are left. -/
def State.Supplied (s : State) : Prop := s.stepsLeft.count .write ≤ s.answers.length

/-- From `s` to `t` the first of the steps left is made, with an answer still for each write, or `BUSY` falls. -/
def Progress (s t : State) : Prop :=
  t.busy = false ∨ ∃ k, s.stepsLeft = k :: t.stepsLeft ∧ t.Supplied

/-- R5, R83: a wait takes no answer. -/
theorem progress_wait {s t : State} (hs : s.Supplied) (hleft : s.stepsLeft = .wait :: t.stepsLeft)
    (hans : t.answers = s.answers) : Progress s t := by
  refine .inr ⟨_, hleft, ?_⟩
  rw [State.Supplied, hleft] at hs
  rw [State.Supplied, hans]
  exact hs

theorem advance_answers (s : State) : s.advance.answers = s.answers := by
  unfold State.advance
  split <;> (try split) <;> rfl

/-- R17, R89, R175: a write is made, since its answer is there, or its failure ends the operation. -/
theorem progress_phaseWrite {s : State} (hv : SequencingValid s) (hs : s.Supplied) (hph : s.ph ≠ .idle)
    (hset : s.settle = 0) : Progress s s.phaseWrite := by
  rcases phaseWrite_cases s with ⟨ha, -⟩ | ⟨rest, ha, h⟩ | ⟨reached, latched, rest, -, h⟩
  · simp [State.Supplied, stepsLeft_advance hv hph hset, ha] at hs
  · let t := ({ s with answers := rest } : State).portWrite s.phaseByte
    have hleft : s.stepsLeft = .write :: t.advance.stepsLeft :=
      stepsLeft_advance (s := t) (hv.surroundings rest _ _ _) hph hset
    refine h ▸ .inr ⟨_, hleft, ?_⟩
    have hans : t.advance.answers = rest := advance_answers t
    rw [State.Supplied, hleft, ha, List.count_cons_self, List.length_cons] at hs
    rw [State.Supplied, hans]
    exact Nat.le_of_succ_le_succ hs
  · exact h ▸ .inl rfl

/-- R80, R87: the start of an item makes its first write, the first of the steps left. -/
theorem progress_start {s u : State} (hs : s.Supplied) (hleft : u.stepsLeft = s.stepsLeft)
    (hans : u.answers = s.answers) (hv : SequencingValid u) (hph : u.ph ≠ .idle) (hset : u.settle = 0) :
    Progress s u.phaseWrite := by
  have hu : u.Supplied := by rwa [State.Supplied, hleft, hans]
  have hp : Progress u u.phaseWrite := progress_phaseWrite hv hu hph hset
  rwa [Progress, hleft] at hp

/-- R175: every event of a running operation. -/
theorem Runs.progress {s t : State} (h : Runs s t) (hv : SequencingValid s) (hrun : s.running = true)
    (hs : s.Supplied) : Progress s t := by
  cases h with
  | startXfer rs w hph hcur =>
    let l : State := { s with w := w, rsl := rs }
    have hl : SequencingValid l :=
      ⟨hv.rest, hv.turnedAway, hv.settle, hv.taken, hv.partialRequest, hv.index, fun h => absurd hph h⟩
    exact progress_start hs (stepsLeft_start (s := l) hph hcur rfl) rfl (hl.nextPhase hrun (.inl hcur)) (by simp) rfl
  | startRaw n hph hcur =>
    exact progress_start hs (stepsLeft_start hph hcur rfl) rfl (hv.nextPhase hrun (.inr ⟨⟨n, hcur⟩, .inl rfl⟩))
      (by simp) rfl
  | delay d hph hcur =>
    refine progress_wait hs ?_ (delay_answers s d)
    rw [stepsLeft_idle hph, expansionKinds_drop_item hcur, State.delayItem, delay_eq_emitAll,
      stepsLeft_idle (nextItem_ph _)]
    rfl
  | complete =>
    refine .inl ?_
    unfold State.complete
    split <;> rfl
  | wait hph hset =>
    refine progress_wait hs ?_ (delay_answers s s.settle)
    obtain ⟨it, hc, -⟩ := hv.phase_mem hph
    rw [stepsLeft_phase hph hc, waitKinds_pos hset, State.settleWait, delay_eq_emitAll]
    exact congrArg (StepKind.wait :: ·) (stepsLeft_phase (s := { s.emitAll _ with settle := 0 }) hph hc).symm
  | write hph hset => exact progress_phaseWrite hv hs hph hset

/-- R175: an operation runs, the reset input is released, and the transport has the answers it needs. -/
structure Ongoing (s : State) : Prop where
  noReset : s.rst = none
  running : s.running = true
  sequencing : SequencingValid s
  supplied : s.Supplied

/-- R175: a step of such an operation ends it, or makes the first of the steps it has left. -/
theorem Ongoing.step {s : State} (hs : Ongoing s) :
    ∃ t, step s = .next t ∧ (t.busy = false ∨ ((∃ k, s.stepsLeft = k :: t.stepsLeft) ∧ Ongoing t)) := by
  obtain ⟨hrst, hrun, hv, hsup⟩ := hs
  obtain ⟨t, ht⟩ := sequence_continues s
  have hr : Runs s t := runs_of_sequence ht
  refine ⟨t, (step_running hrst hrun).trans ht, ?_⟩
  rcases hr.progress hv hrun hsup with hb | ⟨k, hk, hsup'⟩
  · exact .inl hb
  cases hb : t.busy with
  | false => exact .inl rfl
  | true =>
    have hu := hr.undisturbed
    have hrun' : t.running = true := by simp [State.running, hb, hu.rx, running_rx hrun]
    exact .inr ⟨⟨k, hk⟩, hu.rst.trans hrst, hrun', hv.run hrun hr, hsup'⟩

/-- R175: the steps that are left, and one for the completion, end the operation. -/
theorem Ongoing.ends {steps : List StepKind} {s : State} (hs : Ongoing s) (hleft : s.stepsLeft = steps) :
    ∃ n t, n ≤ steps.length + 1 ∧ runSteps n s = .next t ∧ t.busy = false := by
  induction steps generalizing s with
  | nil =>
    obtain ⟨t, ht, hb | ⟨⟨k, hk⟩, -⟩⟩ := hs.step
    · exact ⟨1, t, Nat.le_refl 1, runSteps_succ ht, hb⟩
    · exact absurd (hleft.symm.trans hk) (by simp)
  | cons k steps ih =>
    obtain ⟨t, ht, hb | ⟨⟨k', hk⟩, ht'⟩⟩ := hs.step
    · exact ⟨1, t, by simp, runSteps_succ ht, hb⟩
    · obtain ⟨-, hleft'⟩ := List.cons.inj (hk.symm.trans hleft)
      obtain ⟨n, u, hn, hu, hb⟩ := ih ht' hleft'
      exact ⟨n + 1, u, Nat.succ_le_succ hn, (runSteps_succ ht).trans hu, hb⟩

/-- Settles O58: the steps left are among those of the expansion, by their number and by the writes among them, and they
are counted down one by one. -/
theorem everyOperationEnds : Obligations.EveryOperationEnds := by
  intro s hs hrst hrun ha
  have hsub := hs.sequencing.stepsLeft_sublist
  have hsup : s.Supplied := calc
    s.stepsLeft.count .write ≤ (expansionKinds s.cfg s.expansion).count .write := hsub.count_le _
    _ = writeCount s.expansion := count_write_expansionKinds _ _
    _ ≤ s.answers.length := ha
  obtain ⟨n, t, hn, ht, hb⟩ := Ongoing.ends ⟨hrst, hrun, hs.sequencing, hsup⟩ rfl
  refine ⟨n, t, ?_, ht, hb⟩
  rw [stepCount_eq_length]
  exact hn.trans (Nat.succ_le_succ hsub.length_le)

end Sys2Proof.Machine
end
